-- ==== Sys2Proof/Word.lean ====
section
/-! DEFINITION. The one word type of the block: the byte (00_scope.md section 6.1, 20_memory.md R30). -/

namespace Sys2Proof

/-- `BYTE_BITS` (00_scope.md R6): bits in a byte. The number stands here alone, beside the type it is the width of;
the record of constants takes it from here. -/
abbrev byteBits : Nat := 8

/-- A byte, 0 to 255; bit 0 is its least significant bit (00_scope.md section 6.1, R37). -/
abbrev Byte := BitVec byteBits

end Sys2Proof
end

