-- ==== Sys2Proof/Config.lean ====
section
/-! DEFINITION. What an implementation fixes: the record type of the block's named constants
(00_scope.md R6), the decided widths (R7), and the free values of the unused output ports (10_state.md R23). -/

namespace Sys2Proof

/-- The constants of 00_scope.md R6, one field each, so that rules name the constant and not the number
(92_eei_decisions.md D16, 93_implementation_defined.md U1 and U5). Their values stand in
`Sys2Proof.Machine.consts`. UNVERIFIED, unsafe: log 15. -/
structure Consts where
  /-- `FRAME_LEN`: the only accepted buffer length, in bytes. -/
  frameLen : Nat
  /-- `BYTE_BITS`: bits in a byte. -/
  byteBits : Nat
  /-- `N_FX_FIELDS`: two-byte fixed-point fields in a frame. -/
  nFxFields : Nat
  /-- `N_FLAGS`: flags in each flag byte. -/
  nFlags : Nat
  /-- `K_SIGN_THRESHOLD`: the negative branch is taken when `high` is greater. -/
  signThreshold : Nat
  /-- `K_XOR_MASK`: XOR-ed with the high byte in the negative branch. -/
  xorMask : Byte
  /-- `K_NEG_MUL`: multiplier of the negative branch, on whole units. -/
  negMul : Nat
  /-- `K_POS_MUL`: multiplier of the high byte in the positive branch, on hundredths. -/
  posMul : Nat
  /-- `K_SCALE`: hundredths per unit. -/
  scale : Nat
  /-- `K_SENTINEL`, in units: `ch_pressure` when no sensor is present. -/
  sentinelUnits : Int
  /-- `K_PRS_BIT`: the "pressure sensor present" bit of the secondary flags byte. -/
  prsBit : Nat
  /-- `OFF_*`: the offset of each field slot, 43_frame_decode.md R143 to R157. -/
  offFlue : Nat
  offFlow : Nat
  offRet : Nat
  offDhw : Nat
  offBoiler : Nat
  offOutdoor : Nat
  offPress : Nat
  offTset : Nat
  offFanset : Nat
  offFanact : Nat
  offFanpwm : Nat
  offIocur : Nat
  offDcode : Nat
  offPflags : Nat
  offSflags : Nat
  /-- The five codes of the status table, 42_status_label.md R122 to R126. -/
  codeDhw : Byte
  codeChActive : Byte
  codeChIdle : Byte
  codeDhwPost : Byte
  codeChPost : Byte
  deriving DecidableEq, Repr

/-- `FX_W`: width of a fixed-point output port (00_scope.md R7, D2). -/
abbrev Config.fxW : Nat := 23

/-- `LABEL_ID_W`: width of the label selector (00_scope.md R7, D8). -/
abbrev Config.labelIdW : Nat := 3

/-- `LABEL_MAX_BYTES`: longest label text in bytes (00_scope.md R7, 42_status_label.md R129). -/
abbrev Config.labelMaxBytes : Nat := 27

/-- The least `LEN_W` an implementation may have (00_scope.md R7, D4). -/
abbrev Config.lenWMin : Nat := 6

/-- Free value: what the fixed-point output port number `port` holds during draw `draw` when the result is an
error (10_state.md R23, D5, U6). That it depends on these two and on nothing else, so that two looks during one draw
agree, is the model's. DESIGN CHOICE, unsafe to that extent: log 12. -/
opaque Config.freeFx (port draw : Nat) : BitVec Config.fxW

/-- Free value: an 8-bit telemetry port when the result is an error (10_state.md R23).
Steady during a draw, as `freeFx`: log 12. -/
opaque Config.freeByte (port draw : Nat) : Byte

/-- Free value: a one-bit telemetry port when the result is an error (10_state.md R23).
Steady during a draw, as `freeFx`: log 12. -/
opaque Config.freeBit (port draw : Nat) : BitVec 1

/-- Free value: the label id port when the result is an error (10_state.md R23).
Steady during a draw, as `freeFx`: log 12. -/
opaque Config.freeLabelId (draw : Nat) : BitVec Config.labelIdW

/-- Free value: a length port of `w` bits when the result is no error (10_state.md R23).
Steady during a draw, as `freeFx`: log 12. -/
opaque Config.freeLen (w port draw : Nat) : BitVec w

end Sys2Proof
end

