-- ==== Sys2Proof/Machine/Consts.lean ====
section
/-! DEFINITION. The values of the block's named constants, in one place (00_scope.md R6, D16). -/

namespace Sys2Proof.Machine

/-- The document's values of the constants (00_scope.md R6). 265 is the document's own (90_conflicts.md C3).
UNVERIFIED against a device, unsafe: log 15. -/
def consts : Consts where
  frameLen := 32
  byteBits := Sys2Proof.byteBits
  nFxFields := 12
  nFlags := 8
  signThreshold := 127
  xorMask := 255
  negMul := 256
  posMul := 265
  scale := 100
  sentinelUnits := -35
  prsBit := 5
  offFlue := 0
  offFlow := 2
  offRet := 4
  offDhw := 6
  offBoiler := 8
  offOutdoor := 10
  offPress := 12
  offTset := 14
  offFanset := 16
  offFanact := 18
  offFanpwm := 20
  offIocur := 22
  offDcode := 24
  offPflags := 27
  offSflags := 29
  codeDhw := 51
  codeChActive := 102
  codeChIdle := 126
  codeDhwPost := 204
  codeChPost := 231

/-- A code with a row of its own in the status table (42_status_label.md R122 to R126). -/
def knownCode (code : Byte) : Bool :=
  code == consts.codeDhw || code == consts.codeChActive || code == consts.codeChIdle ||
    code == consts.codeDhwPost || code == consts.codeChPost

end Sys2Proof.Machine
end

