-- ==== Sys2Proof/Syntax.lean ====
section
/-! DEFINITION. The operations of the block (30_encoding.md R60), one constructor for each row of
spec/opcode_table.json, and the request that selects one. The block fetches no instructions (20_memory.md R49):
an operation is selected by its input format, its position in the frame, or by nothing at all (R60). -/

namespace Sys2Proof

/-- An operation of the block (00_scope.md section 1, 30_encoding.md R60). An operation of the frame takes its
operands from the frame buffer; a helper used alone (00_scope.md R9) carries its operand bytes. -/
inductive Instr where
  /-- `LEN.CHK`, 43_frame_decode.md R140. -/
  | lenChk
  /-- `FLD.FLUE`: the flue temperature, R143. -/
  | fldFlue
  /-- `FLD.FLOW`: the flow temperature, R144. -/
  | fldFlow
  /-- `FLD.RET`: the return temperature, R145. -/
  | fldRet
  /-- `FLD.DHW`: the domestic hot water temperature, R146. -/
  | fldDhw
  /-- `FLD.BOILER`: the boiler sensor temperature, R147. -/
  | fldBoiler
  /-- `FLD.OUTDOOR`: the outdoor temperature, R148. -/
  | fldOutdoor
  /-- `FLD.PRESS`: the central-heating pressure, raw, R149. -/
  | fldPress
  /-- `FLD.TSET`: the temperature setpoint, R150. -/
  | fldTset
  /-- `FLD.FANSET`: the fan speed setpoint, R151. -/
  | fldFanset
  /-- `FLD.FANACT`: the actual fan speed, R152. -/
  | fldFanact
  /-- `FLD.FANPWM`: the fan PWM, R153. -/
  | fldFanpwm
  /-- `FLD.IOCUR`: the io current, R154. -/
  | fldIocur
  /-- `FLD.DCODE`: the display code, R155. -/
  | fldDcode
  /-- `FLD.PFLAGS`: the primary flags, R156. -/
  | fldPflags
  /-- `FLD.SFLAGS`: the secondary flags, R157. -/
  | fldSflags
  /-- `PRS.OVR`: the pressure sensor override, R158. -/
  | prsOvr
  /-- `FRM.LABEL`: the status label of the frame, R159. -/
  | frmLabel
  /-- `FRM.DEC`: the whole transaction, R160. -/
  | frmDec
  /-- `FXP.POS(low, high)`, `high` 0 to 127, 40_fixed_point.md R71. -/
  | fxpPos (low high : Byte)
  /-- `FXP.NEG(low, high)`, `high` 128 to 255, R72. -/
  | fxpNeg (low high : Byte)
  /-- `FLG.PRI(b)`, 41_flags.md R91. -/
  | flgPri (b : Byte)
  /-- `FLG.PRI.general_power_switch`: bit 0, R92. -/
  | flgPriGeneralPowerSwitch (b : Byte)
  /-- `FLG.PRI.tap_water_switch`: bit 1, R93. -/
  | flgPriTapWaterSwitch (b : Byte)
  /-- `FLG.PRI.room_thermostat`: bit 2, R94. -/
  | flgPriRoomThermostat (b : Byte)
  /-- `FLG.PRI.pump`: bit 3, R95. -/
  | flgPriPump (b : Byte)
  /-- `FLG.PRI.three_way_valve`: bit 4, R96. -/
  | flgPriThreeWayValve (b : Byte)
  /-- `FLG.PRI.alarm_status`: bit 5, R97. -/
  | flgPriAlarmStatus (b : Byte)
  /-- `FLG.PRI.ch_cascade_relay`: bit 6, R98. -/
  | flgPriChCascadeRelay (b : Byte)
  /-- `FLG.PRI.opentherm`: bit 7, R99. -/
  | flgPriOpentherm (b : Byte)
  /-- `FLG.SEC(b)`, R100. -/
  | flgSec (b : Byte)
  /-- `FLG.SEC.gas_valve`: bit 0, R101. -/
  | flgSecGasValve (b : Byte)
  /-- `FLG.SEC.spark`: bit 1, R102. -/
  | flgSecSpark (b : Byte)
  /-- `FLG.SEC.io_signal`: bit 2, R103. -/
  | flgSecIoSignal (b : Byte)
  /-- `FLG.SEC.ch_opentherm_disabled`: bit 3, R104. -/
  | flgSecChOpenthermDisabled (b : Byte)
  /-- `FLG.SEC.low_water_pressure`: bit 4, R105. -/
  | flgSecLowWaterPressure (b : Byte)
  /-- `FLG.SEC.pressure_sensor_present`: bit 5, R106. -/
  | flgSecPressureSensorPresent (b : Byte)
  /-- `FLG.SEC.burner_block`: bit 6, R107. -/
  | flgSecBurnerBlock (b : Byte)
  /-- `FLG.SEC.gradient_flag`: bit 7, R108. -/
  | flgSecGradientFlag (b : Byte)
  /-- `LBL.DHW`: code 51, 42_status_label.md R122. -/
  | lblDhw
  /-- `LBL.CH_ACTIVE`: code 102, R123. -/
  | lblChActive
  /-- `LBL.CH_IDLE`: code 126, R124. -/
  | lblChIdle
  /-- `LBL.DHW_POST`: code 204, R125. -/
  | lblDhwPost
  /-- `LBL.CH_POST`: code 231, R126. -/
  | lblChPost
  /-- `LBL.UNKNOWN(code)`: every other code, R127. -/
  | lblUnknown (code : Byte)
  deriving DecidableEq, Repr

/-- The input formats of 30_encoding.md R50 to R54, and `none` for the operations no format selects. -/
inductive Format where
  | none
  | frame
  | fx16
  | flag8
  | code8
  deriving DecidableEq, Repr

/-- The two flag bytes (10_state.md R16). -/
inductive FlagSet where
  | primary
  | secondary
  deriving DecidableEq, Repr

/-- What selects an operation: the "selected by" column of 30_encoding.md R60. -/
inductive Selector where
  /-- The whole transaction: `FRM.DEC`. -/
  | frame
  /-- Applied once, first, to every buffer: `LEN.CHK`. -/
  | lengthCheck
  /-- A field slot, by the first offset it reads. -/
  | slot (offset : Nat)
  /-- Applied once to the raw pressure and secondary flag bit 5: `PRS.OVR`. -/
  | override
  /-- Applied once to the display code: `FRM.LABEL`. -/
  | frameLabel
  /-- A two-byte operand of format `FX16`. -/
  | fx16
  /-- A one-byte operand of format `FLAG8`, all eight flags of a set. -/
  | flag8 (set : FlagSet)
  /-- A one-byte operand of format `FLAG8`, the one flag at a bit of a set. -/
  | flagBit (set : FlagSet) (bit : Nat)
  /-- A one-byte operand of format `CODE8`. -/
  | code8
  deriving DecidableEq, Repr

/-- What the caller asks of the next step: the selection, and the operand bytes it gives a helper used alone
(00_scope.md R9), low byte first (20_memory.md R36). DESIGN CHOICE, safe: log 1. -/
structure Request where
  sel     : Selector
  operand : List Byte
  deriving DecidableEq, Repr

end Sys2Proof
end

