-- ==== Sys2Proof/WellFormed.lean ====
section
/-! DEFINITION. Which instructions are well formed: a helper carries only operands its rule takes. -/

namespace Sys2Proof

/-- `FXP.POS` takes `high` 0 to 127 and `FXP.NEG` takes `high` 128 to 255 (40_fixed_point.md R71, R72);
`LBL.UNKNOWN` takes a code with no row of its own (42_status_label.md R127). Every other operation takes every
byte (41_flags.md R90) or none. -/
def Instr.wf : Instr → Bool
  | .fxpPos _ high => decide (high.toNat ≤ Machine.consts.signThreshold)
  | .fxpNeg _ high => decide (Machine.consts.signThreshold < high.toNat)
  | .lblUnknown code => !Machine.knownCode code
  | .lenChk => true
  | .fldFlue => true
  | .fldFlow => true
  | .fldRet => true
  | .fldDhw => true
  | .fldBoiler => true
  | .fldOutdoor => true
  | .fldPress => true
  | .fldTset => true
  | .fldFanset => true
  | .fldFanact => true
  | .fldFanpwm => true
  | .fldIocur => true
  | .fldDcode => true
  | .fldPflags => true
  | .fldSflags => true
  | .prsOvr => true
  | .frmLabel => true
  | .frmDec => true
  | .flgPri _ => true
  | .flgPriGeneralPowerSwitch _ => true
  | .flgPriTapWaterSwitch _ => true
  | .flgPriRoomThermostat _ => true
  | .flgPriPump _ => true
  | .flgPriThreeWayValve _ => true
  | .flgPriAlarmStatus _ => true
  | .flgPriChCascadeRelay _ => true
  | .flgPriOpentherm _ => true
  | .flgSec _ => true
  | .flgSecGasValve _ => true
  | .flgSecSpark _ => true
  | .flgSecIoSignal _ => true
  | .flgSecChOpenthermDisabled _ => true
  | .flgSecLowWaterPressure _ => true
  | .flgSecPressureSensorPresent _ => true
  | .flgSecBurnerBlock _ => true
  | .flgSecGradientFlag _ => true
  | .lblDhw => true
  | .lblChActive => true
  | .lblChIdle => true
  | .lblDhwPost => true
  | .lblChPost => true

end Sys2Proof
end

