-- ==== Sys2Proof/Decode.lean ====
section
/-! DEFINITION. From a request to an operation and back: the operation map of 30_encoding.md R60 read as a
decoder, total on any bytes, and the encoder written from the same map. Also the reading of a bare word of
spec/opcode_table.json, which names no position and no format. -/

namespace Sys2Proof

open Sys2Proof.Machine (consts knownCode)

/-- Why a request names no operation of the block. Raised by `decode` alone; safe: log 1. -/
inductive DecodeReject where
  /-- No field slot starts at this offset: it is reserved (20_memory.md R43), the high byte of a slot, or outside
  the frame (R39). -/
  | noSlotAt (offset : Nat)
  /-- A flag byte has bits 0 to 7 only (30_encoding.md R53). -/
  | noFlagBit (bit : Nat)
  /-- The format takes another number of operand bytes (30_encoding.md R50 to R54). -/
  | operandBytes (expected actual : Nat)
  deriving DecidableEq, Repr

/-- The field slots by the offset each starts at (30_encoding.md R51). -/
def slotTable : List (Nat × Instr) :=
  [(consts.offFlue, .fldFlue), (consts.offFlow, .fldFlow), (consts.offRet, .fldRet),
    (consts.offDhw, .fldDhw), (consts.offBoiler, .fldBoiler), (consts.offOutdoor, .fldOutdoor),
    (consts.offPress, .fldPress), (consts.offTset, .fldTset), (consts.offFanset, .fldFanset),
    (consts.offFanact, .fldFanact), (consts.offFanpwm, .fldFanpwm), (consts.offIocur, .fldIocur),
    (consts.offDcode, .fldDcode), (consts.offPflags, .fldPflags), (consts.offSflags, .fldSflags)]

/-- The field slot that starts at an offset (30_encoding.md R51). -/
def decodeSlot (offset : Nat) : Except DecodeReject Instr :=
  match slotTable.lookup offset with
  | some i => .ok i
  | none => .error (.noSlotAt offset)

/-- `FX16`: bit 15 of `{high, low}` selects the branch (30_encoding.md R52). -/
def decodeFx16 (low high : Byte) : Instr :=
  if consts.signThreshold < high.toNat then .fxpNeg low high else .fxpPos low high

/-- `CODE8`: equality on all eight bits, else the fallback (30_encoding.md R58, R63). -/
def decodeCode8 (code : Byte) : Instr :=
  if code = consts.codeDhw then .lblDhw
  else if code = consts.codeChActive then .lblChActive
  else if code = consts.codeChIdle then .lblChIdle
  else if code = consts.codeDhwPost then .lblDhwPost
  else if code = consts.codeChPost then .lblChPost
  else .lblUnknown code

/-- `FLAG8`, all eight flags of a set (30_encoding.md R60). -/
def decodeFlag8 (set : FlagSet) (b : Byte) : Instr :=
  match set with
  | .primary => .flgPri b
  | .secondary => .flgSec b

/-- The flag rows of a set by the bit each reads (10_state.md R16, 41_flags.md R92 to R99, R101 to R108). -/
def flagTable (set : FlagSet) : List (Nat × (Byte → Instr)) :=
  match set with
  | .primary =>
    [(0, .flgPriGeneralPowerSwitch), (1, .flgPriTapWaterSwitch), (2, .flgPriRoomThermostat), (3, .flgPriPump),
      (4, .flgPriThreeWayValve), (5, .flgPriAlarmStatus), (6, .flgPriChCascadeRelay), (7, .flgPriOpentherm)]
  | .secondary =>
    [(0, .flgSecGasValve), (1, .flgSecSpark), (2, .flgSecIoSignal), (3, .flgSecChOpenthermDisabled),
      (4, .flgSecLowWaterPressure), (consts.prsBit, .flgSecPressureSensorPresent), (6, .flgSecBurnerBlock),
      (7, .flgSecGradientFlag)]

/-- `FLAG8`, the flag at one bit of a set (30_encoding.md R60). -/
def decodeFlagBit (set : FlagSet) (bit : Nat) (b : Byte) : Except DecodeReject Instr :=
  match (flagTable set).lookup bit with
  | some row => .ok (row b)
  | none => .error (.noFlagBit bit)

/-- Exactly no operand bytes. -/
def noOperand (i : Instr) (bytes : List Byte) : Except DecodeReject Instr :=
  match bytes with
  | [] => .ok i
  | _ => .error (.operandBytes 0 bytes.length)

/-- Exactly one operand byte. -/
def oneByte (f : Byte → Except DecodeReject Instr) (bytes : List Byte) : Except DecodeReject Instr :=
  match bytes with
  | [b] => f b
  | _ => .error (.operandBytes 1 bytes.length)

/-- Exactly two operand bytes, the low one first (20_memory.md R36). -/
def twoBytes (f : Byte → Byte → Except DecodeReject Instr) (bytes : List Byte) : Except DecodeReject Instr :=
  match bytes with
  | [low, high] => f low high
  | _ => .error (.operandBytes 2 bytes.length)

/-- The operation a request names, or why it names none (30_encoding.md R60). -/
def decode (r : Request) : Except DecodeReject Instr :=
  match r.sel with
  | .frame => noOperand .frmDec r.operand
  | .lengthCheck => noOperand .lenChk r.operand
  | .slot offset => (decodeSlot offset).bind (noOperand · r.operand)
  | .override => noOperand .prsOvr r.operand
  | .frameLabel => noOperand .frmLabel r.operand
  | .fx16 => twoBytes (fun low high => .ok (decodeFx16 low high)) r.operand
  | .flag8 set => oneByte (fun b => .ok (decodeFlag8 set b)) r.operand
  | .flagBit set bit => oneByte (decodeFlagBit set bit) r.operand
  | .code8 => oneByte (fun b => .ok (decodeCode8 b)) r.operand

/-- The request that names an operation (30_encoding.md R51, R60). -/
def encode : Instr → Request
  | .lenChk => ⟨.lengthCheck, []⟩
  | .fldFlue => ⟨.slot consts.offFlue, []⟩
  | .fldFlow => ⟨.slot consts.offFlow, []⟩
  | .fldRet => ⟨.slot consts.offRet, []⟩
  | .fldDhw => ⟨.slot consts.offDhw, []⟩
  | .fldBoiler => ⟨.slot consts.offBoiler, []⟩
  | .fldOutdoor => ⟨.slot consts.offOutdoor, []⟩
  | .fldPress => ⟨.slot consts.offPress, []⟩
  | .fldTset => ⟨.slot consts.offTset, []⟩
  | .fldFanset => ⟨.slot consts.offFanset, []⟩
  | .fldFanact => ⟨.slot consts.offFanact, []⟩
  | .fldFanpwm => ⟨.slot consts.offFanpwm, []⟩
  | .fldIocur => ⟨.slot consts.offIocur, []⟩
  | .fldDcode => ⟨.slot consts.offDcode, []⟩
  | .fldPflags => ⟨.slot consts.offPflags, []⟩
  | .fldSflags => ⟨.slot consts.offSflags, []⟩
  | .prsOvr => ⟨.override, []⟩
  | .frmLabel => ⟨.frameLabel, []⟩
  | .frmDec => ⟨.frame, []⟩
  | .fxpPos low high => ⟨.fx16, [low, high]⟩
  | .fxpNeg low high => ⟨.fx16, [low, high]⟩
  | .flgPri b => ⟨.flag8 .primary, [b]⟩
  | .flgPriGeneralPowerSwitch b => ⟨.flagBit .primary 0, [b]⟩
  | .flgPriTapWaterSwitch b => ⟨.flagBit .primary 1, [b]⟩
  | .flgPriRoomThermostat b => ⟨.flagBit .primary 2, [b]⟩
  | .flgPriPump b => ⟨.flagBit .primary 3, [b]⟩
  | .flgPriThreeWayValve b => ⟨.flagBit .primary 4, [b]⟩
  | .flgPriAlarmStatus b => ⟨.flagBit .primary 5, [b]⟩
  | .flgPriChCascadeRelay b => ⟨.flagBit .primary 6, [b]⟩
  | .flgPriOpentherm b => ⟨.flagBit .primary 7, [b]⟩
  | .flgSec b => ⟨.flag8 .secondary, [b]⟩
  | .flgSecGasValve b => ⟨.flagBit .secondary 0, [b]⟩
  | .flgSecSpark b => ⟨.flagBit .secondary 1, [b]⟩
  | .flgSecIoSignal b => ⟨.flagBit .secondary 2, [b]⟩
  | .flgSecChOpenthermDisabled b => ⟨.flagBit .secondary 3, [b]⟩
  | .flgSecLowWaterPressure b => ⟨.flagBit .secondary 4, [b]⟩
  | .flgSecPressureSensorPresent b => ⟨.flagBit .secondary consts.prsBit, [b]⟩
  | .flgSecBurnerBlock b => ⟨.flagBit .secondary 6, [b]⟩
  | .flgSecGradientFlag b => ⟨.flagBit .secondary 7, [b]⟩
  | .lblDhw => ⟨.code8, [consts.codeDhw]⟩
  | .lblChActive => ⟨.code8, [consts.codeChActive]⟩
  | .lblChIdle => ⟨.code8, [consts.codeChIdle]⟩
  | .lblDhwPost => ⟨.code8, [consts.codeDhwPost]⟩
  | .lblChPost => ⟨.code8, [consts.codeChPost]⟩
  | .lblUnknown code => ⟨.code8, [code]⟩

/-- The format column of 30_encoding.md R60. -/
def Instr.format : Instr → Format
  | .lenChk => .none
  | .fldFlue => .frame
  | .fldFlow => .frame
  | .fldRet => .frame
  | .fldDhw => .frame
  | .fldBoiler => .frame
  | .fldOutdoor => .frame
  | .fldPress => .frame
  | .fldTset => .frame
  | .fldFanset => .frame
  | .fldFanact => .frame
  | .fldFanpwm => .frame
  | .fldIocur => .frame
  | .fldDcode => .frame
  | .fldPflags => .frame
  | .fldSflags => .frame
  | .prsOvr => .none
  | .frmLabel => .none
  | .frmDec => .frame
  | .fxpPos _ _ => .fx16
  | .fxpNeg _ _ => .fx16
  | .flgPri _ => .flag8
  | .flgPriGeneralPowerSwitch _ => .flag8
  | .flgPriTapWaterSwitch _ => .flag8
  | .flgPriRoomThermostat _ => .flag8
  | .flgPriPump _ => .flag8
  | .flgPriThreeWayValve _ => .flag8
  | .flgPriAlarmStatus _ => .flag8
  | .flgPriChCascadeRelay _ => .flag8
  | .flgPriOpentherm _ => .flag8
  | .flgSec _ => .flag8
  | .flgSecGasValve _ => .flag8
  | .flgSecSpark _ => .flag8
  | .flgSecIoSignal _ => .flag8
  | .flgSecChOpenthermDisabled _ => .flag8
  | .flgSecLowWaterPressure _ => .flag8
  | .flgSecPressureSensorPresent _ => .flag8
  | .flgSecBurnerBlock _ => .flag8
  | .flgSecGradientFlag _ => .flag8
  | .lblDhw => .code8
  | .lblChActive => .code8
  | .lblChIdle => .code8
  | .lblDhwPost => .code8
  | .lblChPost => .code8
  | .lblUnknown _ => .code8

/-- How many operand bytes a request carries for a format: those of the format for a helper used alone, none for an
operation whose operands are in the frame buffer (30_encoding.md R50 to R54). -/
def Format.operandBytes : Format → Nat
  | .none => 0
  | .frame => 0
  | .fx16 => 2
  | .flag8 => 1
  | .code8 => 1

/-- The lowest bit of a byte that is 1, looked for from bit `i` with `fuel` bits left. -/
def lowestSetBit (b : Byte) (i : Nat) : Nat → Option Nat
  | 0 => none
  | fuel + 1 => if b.getLsbD i then some i else lowestSetBit b (i + 1) fuel

/-- The selection a bare word of spec/opcode_table.json stands for. The table's words carry no format and no
position, and one byte matches rows of several formats. Sixteen bits are `FX16`. Of the rows that eight bits
match, the one with the most fixed bits is taken: a code of the status table (mask 0xFF), else the flag row of the
lowest bit set, primary set first as in the table, else `CODE8`, whose default takes every byte. No bits at all is
the whole transaction. DESIGN CHOICE, safe: log 3. -/
def tableSelector (nbits w : Nat) : Selector :=
  if nbits = 2 * consts.byteBits then .fx16
  else if nbits = consts.byteBits then
    if knownCode (BitVec.ofNat byteBits w) then .code8
    else
      match lowestSetBit (BitVec.ofNat byteBits w) 0 consts.nFlags with
      | some i => .flagBit .primary i
      | none => .code8
  else .frame

/-- The `n` bytes of a word, bits 7:0 first. -/
def bytesOfWord : Nat → Nat → List Byte
  | 0, _ => []
  | n + 1, w => BitVec.ofNat byteBits w :: bytesOfWord n (w / 2 ^ consts.byteBits)

/-- The request that a bare word of the table stands for. -/
def tableRequest (nbits w : Nat) : Request := ⟨tableSelector nbits w, bytesOfWord (nbits / consts.byteBits) w⟩

/-- The operation the decoder reads from a bare word of spec/opcode_table.json, bit 0 least significant. -/
def decodeTableWord (nbits w : Nat) : Option Instr :=
  match decode (tableRequest nbits w) with
  | .ok i => some i
  | .error _ => none

end Sys2Proof
end

