-- ==== Sys2Proof/Machine/State.lean ====
section
/-! DEFINITION. What the machine holds, as plain data: the input of a transaction, the result being built, what the
last step gave back, and the caller's request (10_state.md, opening; INVENTORY.md, State). And `State.reset`
(10_state.md R26). -/

namespace Sys2Proof.Machine

/-- A text, the document's `String`, as its characters (42_status_label.md R128). DESIGN CHOICE, safe: log 11. -/
abbrev Text := List Char

/-- The eight flags of byte 27, bit 0 first (10_state.md R16, 41_flags.md R91). -/
structure PrimaryFlags where
  /-- `general_power_switch`, bit 0. -/
  generalPowerSwitch : Bool
  /-- `tap_water_switch`, bit 1. -/
  tapWaterSwitch : Bool
  /-- `room_thermostat`, bit 2. -/
  roomThermostat : Bool
  /-- `pump`, bit 3. -/
  pump : Bool
  /-- `three_way_valve`, bit 4. -/
  threeWayValve : Bool
  /-- `alarm_status`, bit 5. -/
  alarmStatus : Bool
  /-- `ch_cascade_relay`, bit 6. -/
  chCascadeRelay : Bool
  /-- `opentherm`, bit 7. -/
  opentherm : Bool
  deriving DecidableEq, Repr

/-- The eight flags of byte 29, bit 0 first (10_state.md R16, 41_flags.md R100). -/
structure SecondaryFlags where
  /-- `gas_valve`, bit 0. -/
  gasValve : Bool
  /-- `spark`, bit 1. -/
  spark : Bool
  /-- `io_signal`, bit 2. -/
  ioSignal : Bool
  /-- `ch_opentherm_disabled`, bit 3. -/
  chOpenthermDisabled : Bool
  /-- `low_water_pressure`, bit 4. -/
  lowWaterPressure : Bool
  /-- `pressure_sensor_present`, bit 5. -/
  pressureSensorPresent : Bool
  /-- `burner_block`, bit 6. -/
  burnerBlock : Bool
  /-- `gradient_flag`, bit 7. -/
  gradientFlag : Bool
  deriving DecidableEq, Repr

/-- `ch_pressure`: the tagged value of 43_frame_decode.md R158. A measured value is in hundredths. -/
inductive ChPressure where
  | measured (h : Int)
  | sensorAbsent
  deriving DecidableEq, Repr

/-- The label ids that are ever produced (42_status_label.md R121); 6 and 7 have no constructor. -/
inductive LabelId where
  | unknown
  | dhw
  | chActive
  | chIdle
  | dhwPost
  | chPost
  deriving DecidableEq, Repr

/-- What an operation of the `LBL` family gives: the label id and the text (42_status_label.md R122 to R127). -/
structure Label where
  id   : LabelId
  text : Text
  deriving DecidableEq, Repr

/-- The result record (10_state.md R18). A fixed-point field is its integer count of hundredths (00_scope.md
section 6.2, D2). The label is a text (90_conflicts.md C6). -/
structure BoilerTelemetry where
  /-- `flue`. -/
  flue : Int
  /-- `flow`. -/
  flow : Int
  /-- `return_`. -/
  return_ : Int
  /-- `domestic_hot_water`. -/
  domesticHotWater : Int
  /-- `boiler_sensor`. -/
  boilerSensor : Int
  /-- `outdoor`. -/
  outdoor : Int
  /-- `ch_pressure`. -/
  chPressure : ChPressure
  /-- `temperature_setpoint`. -/
  temperatureSetpoint : Int
  /-- `fan_speed_setpoint`. -/
  fanSpeedSetpoint : Int
  /-- `fan_speed_actual`. -/
  fanSpeedActual : Int
  /-- `fan_pwm`. -/
  fanPwm : Int
  /-- `io_current`. -/
  ioCurrent : Int
  /-- `display_code`. -/
  displayCode : Byte
  /-- `primary_flags`. -/
  primaryFlags : PrimaryFlags
  /-- `secondary_flags`. -/
  secondaryFlags : SecondaryFlags
  /-- `status_label`. -/
  statusLabel : Text
  deriving DecidableEq, Repr

/-- The one error (10_state.md R20, 60_exceptions.md R190, R191). -/
inductive DecodeError where
  | unexpectedLength (expected actual : Nat)
  deriving DecidableEq, Repr

/-- The result of a transaction: a record or an error, never both (10_state.md R18, R20). -/
inductive Result where
  | ok (t : BoilerTelemetry)
  | err (e : DecodeError)
  deriving DecidableEq, Repr

/-- The result being built (10_state.md R10): one entry for each assignment of 43_frame_decode.md R160, absent until
its operation has run. The absence is the spec's own: a telemetry value that does not exist is absent and never a
fixed value (93_implementation_defined.md U6). `pressRaw` is the intermediate of R149 and no field of the record. -/
structure Build where
  flue                : Option Int
  flow                : Option Int
  return_             : Option Int
  domesticHotWater    : Option Int
  boilerSensor        : Option Int
  outdoor             : Option Int
  pressRaw            : Option Int
  temperatureSetpoint : Option Int
  fanSpeedSetpoint    : Option Int
  fanSpeedActual      : Option Int
  fanPwm              : Option Int
  ioCurrent           : Option Int
  displayCode         : Option Byte
  primaryFlags        : Option PrimaryFlags
  secondaryFlags      : Option SecondaryFlags
  chPressure          : Option ChPressure
  statusLabel         : Option Text
  deriving DecidableEq, Repr

/-- Nothing built. -/
def Build.empty : Build where
  flue                := none
  flow                := none
  return_             := none
  domesticHotWater    := none
  boilerSensor        := none
  outdoor             := none
  pressRaw            := none
  temperatureSetpoint := none
  fanSpeedSetpoint    := none
  fanSpeedActual      := none
  fanPwm              := none
  ioCurrent           := none
  displayCode         := none
  primaryFlags        := none
  secondaryFlags      := none
  chPressure          := none
  statusLabel         := none

/-- The sixteen flags by name, each with a rule of its own (10_state.md R15, 41_flags.md R92 to R99, R101 to R108). -/
inductive Flag where
  | generalPowerSwitch
  | tapWaterSwitch
  | roomThermostat
  | pump
  | threeWayValve
  | alarmStatus
  | chCascadeRelay
  | opentherm
  | gasValve
  | spark
  | ioSignal
  | chOpenthermDisabled
  | lowWaterPressure
  | pressureSensorPresent
  | burnerBlock
  | gradientFlag
  deriving DecidableEq, Repr

/-- What one application of an operation gives back to its caller: the result of a transaction (00_scope.md R8), or the
value of a helper used alone (00_scope.md R9). Where it stands is the model's. DESIGN CHOICE: log 7. -/
inductive Output where
  /-- The result of a transaction: `FRM.DEC`, or `LEN.CHK` where it raises the error. -/
  | transaction (r : Result)
  /-- The value of `FXP.POS` or `FXP.NEG`, in hundredths. -/
  | hundredths (h : Int)
  /-- The eight flags of `FLG.PRI`. -/
  | primaryFlags (f : PrimaryFlags)
  /-- The eight flags of `FLG.SEC`. -/
  | secondaryFlags (f : SecondaryFlags)
  /-- The one flag of a flag row, and whether it is true. -/
  | flag (name : Flag) (value : Bool)
  /-- The label of an `LBL` row. -/
  | label (l : Label)
  deriving DecidableEq, Repr

/-- The machine (INVENTORY.md, State). -/
structure State where
  /-- The operation the caller applies next. The model's own field: log 1. -/
  request : Request
  /-- `len(buf)`, the port `in_len` (10_state.md R17, R22). -/
  inLen : Nat
  /-- The frame buffer, the ports `in_data` (10_state.md R17, 20_memory.md R30), in canonical form. It and `inLen` are
  the transport's, and stay as presented when a transaction ends: log 21. -/
  mem : List Host.Cell
  /-- The result being built (10_state.md R10). -/
  build : Build
  /-- What the step just taken gave back, if it gave anything (10_state.md R18, R20, 00_scope.md R9). No operation reads
  it and every one of them replaces it, so that nothing of an earlier use is kept (10_state.md R25): logs 6 and 7. -/
  output : Option Output
  /-- Counts the draws of unspecified port values (10_state.md R23). The model's own field: log 12. -/
  draws : Nat
  deriving DecidableEq, Repr

/-- Why the machine stops with a fault. `UnexpectedLength` is no fault of the model: it is a result
(60_exceptions.md R200). -/
inductive Fault where
  /-- A slot is applied while the length of the buffer is not 32, which is outside the precondition of `MemRead`
  (20_memory.md R33, R34), or `PRS.OVR` or `FRM.LABEL` while the operand that a slot builds cannot exist (10_state.md
  R14 (a)). Raised by `withByte` and `withPair`, and by those two meanings. Safe: log 9. -/
  | readOutsideFrame (offset : Nat)
  deriving DecidableEq, Repr

/-- Why the machine gives an instruction no meaning. -/
inductive Refusal where
  /-- An operation with no meaning yet. Raised by an arm of `exec`; no arm raises it. Safe. -/
  | notModelled (mnemonic : String)
  /-- The request names no operation of the block (30_encoding.md R60). Raised by `step`. Safe: log 1. -/
  | noSuchOperation
  /-- `FXP.POS`, `FXP.NEG` or `LBL.UNKNOWN` applied to an operand its rule does not take (40_fixed_point.md R71,
  R72, 42_status_label.md R127). Raised by those three meanings; `step` never applies them so. Safe: log 10. -/
  | operandOutsideRule
  /-- A length that does not fit the `LEN_W` bits of `in_len`, or a `LEN_W` below 6 (93_implementation_defined.md
  U8, 00_scope.md R7). Raised by the port view only. Safe: log 13. -/
  | lengthNotPresentable
  /-- A label id 6 or 7 (93_implementation_defined.md U9). Raised by `labelTextOfPort` only. Safe: log 13. -/
  | noSuchLabelId
  deriving DecidableEq, Repr

/-- The three outcomes of an operation. -/
abbrev Answer := Host.Outcome State Fault Refusal

/-- The machine right after reset. The block holds nothing (10_state.md R26, 70_reset_and_hazards.md R210): no
buffer has been delivered, nothing is built and nothing has been given back (DESIGN CHOICE, unsafe, log 6). The input at
reset is unspecified (R26): DESIGN CHOICE an empty buffer, unsafe, log 4; the request is the block's own step, the whole
transaction (00_scope.md R8): DESIGN CHOICE, log 1. -/
def State.reset : State where
  request := ⟨.frame, []⟩
  inLen   := 0
  mem     := []
  build   := Build.empty
  output  := none
  draws   := 0

end Sys2Proof.Machine
end

