-- ==== Sys2Proof/Machine/Operands.lean ====
section
/-! DEFINITION. The frame buffer as memory, the reads of it, and the assembly of operands from the bytes read
(20_memory.md R30 to R42, 30_encoding.md R56 to R59). -/

namespace Sys2Proof.Machine

/-- What an offset that is not listed reads as. A byte 0x00 of a delivered buffer is not listed; the form is the
model's. DESIGN CHOICE, unsafe: log 5. -/
def Memory.blank : Byte := 0

/-- The canonical form of a buffer: offsets strictly rising, no entry that says what an unlisted offset reads as. -/
abbrev Memory.wf (m : List Host.Cell) : Prop :=
  m.Pairwise (fun c d => c.1 < d.1) ∧ ∀ c ∈ m, c.2 ≠ Memory.blank

/-- The byte at an offset of a buffer. -/
def Memory.read : List Host.Cell → Nat → Byte
  | [], _ => Memory.blank
  | (a, b) :: rest, addr => if a = addr then b else Memory.read rest addr

/-- Puts an entry in front, unless it says what an unlisted offset reads as. -/
def Memory.cons (addr : Nat) (b : Byte) (rest : List Host.Cell) : List Host.Cell :=
  if b = Memory.blank then rest else (addr, b) :: rest

/-- Sets the byte at an offset and keeps the canonical form. The block never writes its buffer (20_memory.md R42);
the transport fills it. -/
def Memory.write : List Host.Cell → Nat → Byte → List Host.Cell
  | [], addr, b => Memory.cons addr b []
  | (a, c) :: rest, addr, b =>
    if addr < a then Memory.cons addr b ((a, c) :: rest)
    else if addr = a then Memory.cons addr b rest
    else (a, c) :: Memory.write rest addr b

/-- Sets consecutive bytes from an offset on. -/
def Memory.load (m : List Host.Cell) (addr : Nat) : List Byte → List Host.Cell
  | [] => m
  | b :: rest => Memory.load (Memory.write m addr b) (addr + 1) rest

/-- `buf[addr]` (20_memory.md R30). Meant for offsets that exist; the block's reads are `memRead1`, `memRead2`. -/
def State.byteAt (s : State) (addr : Nat) : Byte := Memory.read s.mem addr

/-- `MemRead(addr, 1)`: the byte, when the length is 32 and the offset is in range (20_memory.md R33). -/
def State.memRead1 (s : State) (addr : Nat) : Option Byte :=
  if s.inLen = consts.frameLen ∧ addr < consts.frameLen then some (s.byteAt addr) else none

/-- `MemRead(addr, 2)`: the pair `(low, high)`, low byte at the lower offset (20_memory.md R34, R36). -/
def State.memRead2 (s : State) (addr : Nat) : Option (Byte × Byte) :=
  if s.inLen = consts.frameLen ∧ addr + 1 < consts.frameLen then some (s.byteAt addr, s.byteAt (addr + 1))
  else none

/-- Bit `i` of a byte, `(b >> i) & 1`, read as a boolean (20_memory.md R37, 30_encoding.md R57). -/
def bitOf (b : Byte) (i : Nat) : Bool := (b >>> i) &&& 1 == 1

end Sys2Proof.Machine
end

