-- ==== Sys2Proof/Machine/Flags.lean ====
section
/-! DEFINITION. The flag computations: the unpacking of the two flag bytes and its inverse (41_flags.md R90, R91,
R100, R109). The block has no condition codes (10_state.md R15). -/

namespace Sys2Proof.Machine

/-- `FLG(b)`: the eight bits of a byte as booleans, bit 0 first (41_flags.md R90). -/
def flg (b : Byte) : List Bool := (List.range consts.nFlags).map (bitOf b)

/-- Position `i` of an unpacked byte. -/
def flagAt (fs : List Bool) (i : Nat) : Bool := fs.getD i false

/-- `FLG.PRI(b)` (41_flags.md R91). -/
def flgPri (b : Byte) : PrimaryFlags where
  generalPowerSwitch := flagAt (flg b) 0
  tapWaterSwitch := flagAt (flg b) 1
  roomThermostat := flagAt (flg b) 2
  pump := flagAt (flg b) 3
  threeWayValve := flagAt (flg b) 4
  alarmStatus := flagAt (flg b) 5
  chCascadeRelay := flagAt (flg b) 6
  opentherm := flagAt (flg b) 7

/-- `FLG.SEC(b)` (41_flags.md R100). -/
def flgSec (b : Byte) : SecondaryFlags where
  gasValve := flagAt (flg b) 0
  spark := flagAt (flg b) 1
  ioSignal := flagAt (flg b) 2
  chOpenthermDisabled := flagAt (flg b) 3
  lowWaterPressure := flagAt (flg b) 4
  pressureSensorPresent := flagAt (flg b) consts.prsBit
  burnerBlock := flagAt (flg b) 6
  gradientFlag := flagAt (flg b) 7

/-- `2^i` if the flag is true, else 0 (41_flags.md R109). -/
def flagWeight (f : Bool) (i : Nat) : Byte := if f then 1 <<< i else 0

/-- The byte rebuilt from its flags, the sum of `2^i` over the true ones (41_flags.md R109): what the
`primary_flags` port carries (10_state.md R22, D14). -/
def PrimaryFlags.toByte (f : PrimaryFlags) : Byte :=
  flagWeight f.generalPowerSwitch 0 +
    flagWeight f.tapWaterSwitch 1 +
    flagWeight f.roomThermostat 2 +
    flagWeight f.pump 3 +
    flagWeight f.threeWayValve 4 +
    flagWeight f.alarmStatus 5 +
    flagWeight f.chCascadeRelay 6 +
    flagWeight f.opentherm 7

/-- The byte rebuilt from its flags (41_flags.md R109): what the `secondary_flags` port carries (10_state.md R22). -/
def SecondaryFlags.toByte (f : SecondaryFlags) : Byte :=
  flagWeight f.gasValve 0 +
    flagWeight f.spark 1 +
    flagWeight f.ioSignal 2 +
    flagWeight f.chOpenthermDisabled 3 +
    flagWeight f.lowWaterPressure 4 +
    flagWeight f.pressureSensorPresent consts.prsBit +
    flagWeight f.burnerBlock 6 +
    flagWeight f.gradientFlag 7

end Sys2Proof.Machine
end

