-- ==== Sys2Proof/Machine/Helpers.lean ====
section
/-! DEFINITION. The three helpers as functions of their own, total over bytes (00_scope.md R9), beside `FLG` in
Flags.lean: the fixed-point decoder `FXP` (40_fixed_point.md), the status label `LBL` (42_status_label.md), and the
pressure override's value (43_frame_decode.md R158). -/

namespace Sys2Proof.Machine

/-- `FXP.POS(low, high)`, in hundredths (40_fixed_point.md R71). -/
def fxpPos (low high : Byte) : Int := high.toNat * consts.posMul + low.toNat

/-- `m`, 1 to 128: the magnitude of the negative branch (40_fixed_point.md R72). -/
def negUnits (high : Byte) : Int := (high ^^^ consts.xorMask).toNat + 1

/-- `FXP.NEG(low, high)`, in hundredths (40_fixed_point.md R72): the first term is in whole units, only the low byte is
in hundredths, and both are subtracted. -/
def fxpNeg (low high : Byte) : Int :=
  -(negUnits high * consts.negMul * consts.scale) - low.toNat

/-- `FXP(low, high)`, total over all pairs of bytes (40_fixed_point.md R70). -/
def fxp (low high : Byte) : Int :=
  if consts.signThreshold < high.toNat then fxpNeg low high else fxpPos low high

/-- The sentinel in hundredths: -35 units (43_frame_decode.md R158, D7). -/
def sentinel : Int := consts.sentinelUnits * consts.scale

/-- `PRS.OVR(press_raw, present)` (43_frame_decode.md R158). -/
def prsOvr (pressRaw : Int) (present : Bool) : ChPressure :=
  if present then .measured pressRaw else .sensorAbsent

/-- `number(ch_pressure)` in hundredths (43_frame_decode.md R158). -/
def ChPressure.number : ChPressure → Int
  | .measured h => h
  | .sensorAbsent => sentinel

/-- "Domestic hot water" (42_status_label.md R122). -/
def textDhw : Text :=
  ['D', 'o', 'm', 'e', 's', 't', 'i', 'c', ' ', 'h', 'o', 't', ' ', 'w', 'a', 't', 'e', 'r']

/-- "Central heating active" (42_status_label.md R123). -/
def textChActive : Text :=
  ['C', 'e', 'n', 't', 'r', 'a', 'l', ' ', 'h', 'e', 'a', 't', 'i', 'n', 'g', ' ', 'a', 'c', 't', 'i', 'v', 'e']

/-- "Central heating idle" (42_status_label.md R124). -/
def textChIdle : Text :=
  ['C', 'e', 'n', 't', 'r', 'a', 'l', ' ', 'h', 'e', 'a', 't', 'i', 'n', 'g', ' ', 'i', 'd', 'l', 'e']

/-- "Domestic hot water post-run" (42_status_label.md R125). -/
def textDhwPost : Text :=
  ['D', 'o', 'm', 'e', 's', 't', 'i', 'c', ' ', 'h', 'o', 't', ' ', 'w', 'a', 't', 'e', 'r', ' ',
    'p', 'o', 's', 't', '-', 'r', 'u', 'n']

/-- "Central heating post-run" (42_status_label.md R126). -/
def textChPost : Text :=
  ['C', 'e', 'n', 't', 'r', 'a', 'l', ' ', 'h', 'e', 'a', 't', 'i', 'n', 'g', ' ',
    'p', 'o', 's', 't', '-', 'r', 'u', 'n']

/-- The nine characters `Unknown (` (42_status_label.md R127). -/
def textUnknown : Text := ['U', 'n', 'k', 'n', 'o', 'w', 'n', ' ', '(']

/-- The digit of a number below ten. -/
def digit (n : Nat) : Char :=
  match n with
  | 0 => '0'
  | 1 => '1'
  | 2 => '2'
  | 3 => '3'
  | 4 => '4'
  | 5 => '5'
  | 6 => '6'
  | 7 => '7'
  | 8 => '8'
  | _ => '9'

/-- `dec(code)`: the fewest digits, one below 10, two below 100, else three (42_status_label.md R127, D9). -/
def dec (code : Byte) : Text :=
  let n := code.toNat
  if n < 10 then [digit n]
  else if n < 100 then [digit (n / 10), digit (n % 10)]
  else [digit (n / 100), digit (n / 10 % 10), digit (n % 10)]

/-- The fallback text `Unknown (<code>)` (42_status_label.md R127). -/
def unknownText (code : Byte) : Text := textUnknown ++ dec code ++ [')']

/-- `LBL(code)`, the status label (42_status_label.md R120). -/
def lbl (code : Byte) : Text :=
  if code = consts.codeDhw then textDhw
  else if code = consts.codeChActive then textChActive
  else if code = consts.codeChIdle then textChIdle
  else if code = consts.codeDhwPost then textDhwPost
  else if code = consts.codeChPost then textChPost
  else unknownText code

/-- `label_id(code)` (42_status_label.md R121). -/
def labelIdOf (code : Byte) : LabelId :=
  if code = consts.codeDhw then .dhw
  else if code = consts.codeChActive then .chActive
  else if code = consts.codeChIdle then .chIdle
  else if code = consts.codeDhwPost then .dhwPost
  else if code = consts.codeChPost then .chPost
  else .unknown

/-- `label_text(label_id, code)` (42_status_label.md R121). -/
def labelText (id : LabelId) (code : Byte) : Text :=
  match id with
  | .unknown => unknownText code
  | .dhw => textDhw
  | .chActive => textChActive
  | .chIdle => textChIdle
  | .dhwPost => textDhwPost
  | .chPost => textChPost

/-- The number of a label id on its 3-bit port (42_status_label.md R121). -/
def LabelId.toPort : LabelId → BitVec Config.labelIdW
  | .unknown => 0
  | .dhw => 1
  | .chActive => 2
  | .chIdle => 3
  | .dhwPost => 4
  | .chPost => 5

/-- The text that a label id port and a display code determine; ids 6 and 7 are refused
(42_status_label.md R121, 93_implementation_defined.md U9). -/
def labelTextOfPort (id : BitVec Config.labelIdW) (code : Byte) : Except Refusal Text :=
  if id = 0 then .ok (labelText .unknown code)
  else if id = 1 then .ok (labelText .dhw code)
  else if id = 2 then .ok (labelText .chActive code)
  else if id = 3 then .ok (labelText .chIdle code)
  else if id = 4 then .ok (labelText .dhwPost code)
  else if id = 5 then .ok (labelText .chPost code)
  else .error .noSuchLabelId

/-- A text as bytes, one byte for each character, no terminator and no length (42_status_label.md R128, D8).
The byte values are the spec's from general knowledge (93_implementation_defined.md G1): log 11. -/
def Text.bytes (t : Text) : List Byte := t.map (fun c => BitVec.ofNat byteBits c.toNat)

end Sys2Proof.Machine
end

