-- ==== Sys2Proof/Machine/Ops.lean ====
section
/-! DEFINITION. The named operations over the machine: the transport's delivery of a buffer, the fetch of the caller's
request, what a step builds and what it gives back, the slots, the operands that a slot builds, the one error, and the
end of a transaction. -/

namespace Sys2Proof.Machine

/-! ### The transport -/

/-- The transport presents a buffer and its true length (44_transport_boundary.md R180, R186) and so starts a new
transaction, which knows nothing of an earlier one (00_scope.md R2). The unspecified ports are drawn afresh (log 12).
Called by no operation. DESIGN CHOICE: log 8. -/
def State.deliver (s : State) (buf : List Byte) : State :=
  { s with
    inLen := buf.length
    mem := Memory.load [] 0 buf
    build := Build.empty
    output := none
    draws := s.draws + 1 }

/-- The transport at the ports: `in_len` and the 32 wires `in_data` (10_state.md R22, 44_transport_boundary.md R183).
Wires at or beyond `in_len` may carry anything (93_implementation_defined.md U7). The unspecified ports are drawn afresh
(log 12). DESIGN CHOICE: log 8. -/
def State.present (s : State) {lenW : Nat} (inLen : BitVec lenW) (inData : Vector Byte consts.frameLen) : State :=
  { s with
    inLen := inLen.toNat
    mem := Memory.load [] 0 inData.toList
    build := Build.empty
    output := none
    draws := s.draws + 1 }

/-! ### Selecting an operation -/

/-- The operation the caller asks for (30_encoding.md R60). The block fetches no instructions (20_memory.md R49); this
stands where a fetch would: log 1. -/
def State.fetch (s : State) : Except DecodeReject Instr := decode s.request

/-- The caller selects an operation. Called by no operation. -/
def State.select (s : State) (r : Request) : State := { s with request := r }

/-! ### What a step builds and what it gives back -/

/-- The step goes on and gives nothing back; what an earlier step gave is gone (10_state.md R25, log 6). -/
def State.goOn (s : State) : State := { s with output := none }

/-- Writes the result being built (10_state.md R10); the step gives nothing back. -/
def State.putBuild (s : State) (b : Build) : State := { s with build := b, output := none }

/-- Gives back the value of a helper used alone (00_scope.md R9), and touches nothing else. -/
def State.give (s : State) (o : Output) : State := { s with output := some o }

/-- The result of the transaction that the step just taken ended, if it ended one (10_state.md R18, R20). -/
def State.result (s : State) : Option Result :=
  match s.output with
  | some (.transaction r) => some r
  | _ => none

/-! ### Reading the buffer -/

/-- Goes on with `MemRead(offset, 1)`; outside its precondition it stops (20_memory.md R33, log 9). -/
def withByte (offset : Nat) (s : State) (k : Byte → State) : Answer :=
  match s.memRead1 offset with
  | some b => .next (k b)
  | none => .fault (.readOutsideFrame offset)

/-- Goes on with `MemRead(offset, 2)`; outside its precondition it stops (20_memory.md R34, log 9). -/
def withPair (offset : Nat) (s : State) (k : Byte → Byte → State) : Answer :=
  match s.memRead2 offset with
  | some (low, high) => .next (k low high)
  | none => .fault (.readOutsideFrame offset)

/-- The shape of a two-byte slot: `x <- FXP(MemRead(offset, 2))` (43_frame_decode.md R142). -/
def fxSlot (offset : Nat) (s : State) (x : Int → Build) : Answer :=
  withPair offset s (fun low high => s.putBuild (x (fxp low high)))

/-! ### The slots on which other operations depend -/

/-- `FLD.PRESS`: the raw pressure, `FXP` of bytes 12 and 13 (43_frame_decode.md R149). -/
def fldPress (s : State) : Answer := fxSlot consts.offPress s (fun h => { s.build with pressRaw := some h })

/-- `FLD.SFLAGS`: the secondary flags, `FLG.SEC` of byte 29 (43_frame_decode.md R157). -/
def fldSflags (s : State) : Answer :=
  withByte consts.offSflags s (fun b => s.putBuild { s.build with secondaryFlags := some (flgSec b) })

/-- `FLD.DCODE`: the display code, byte 24 unchanged (43_frame_decode.md R155). -/
def fldDcode (s : State) : Answer :=
  withByte consts.offDcode s (fun b => s.putBuild { s.build with displayCode := some b })

/-- The operand that a slot builds for an operation with no bytes of its own (20_memory.md R32): what the slot has built
or, while it has not been applied yet, what it builds from the buffer now presented, since the order cannot be observed
(10_state.md R14). Without a frame there is none (R14 (a)). DEDUCED, safe: log 2. -/
def builtBy {α : Type} (slot : State → Answer) (field : Build → Option α) (s : State) : Option α :=
  if s.inLen = consts.frameLen then
    match field s.build with
    | some v => some v
    | none =>
      match slot s with
      | .next t => field t.build
      | .fault _ => none
      | .refused _ => none
  else none

/-! ### The end of a transaction -/

/-- The end of a transaction: its one result is handed over (44_transport_boundary.md R184) and nothing else computed
from the buffer is kept (10_state.md R17, log 6). The unspecified ports of the next result are fresh (log 12).
The inputs stay as they are: the block writes none (20_memory.md R42), and what the wires carry once the transaction
is over, which R30 leaves open, is taken to be what they carried in it until the transport acts again. A step without
a delivery so begins another transaction on the same buffer. DESIGN CHOICE, unsafe: log 21. -/
def State.finish (s : State) (r : Result) : State :=
  { s with build := Build.empty, output := some (.transaction r), draws := s.draws + 1 }

/-- `raise UnexpectedLength(32, len(buf))`, the one exception (60_exceptions.md R190, R196): the transaction ends with
the error and with no telemetry. No program counter, status or mode exists to save or to change; there is no handler
and no return (R196, R198). -/
def State.raiseUnexpectedLength (s : State) : State :=
  s.finish (.err (.unexpectedLength consts.frameLen s.inLen))

end Sys2Proof.Machine
end

