-- ==== Sys2Proof/Machine/FixedPoint.lean ====
section
/-! DEFINITION. The fixed-point family used alone (00_scope.md R9): `FXP.POS` and `FXP.NEG` (40_fixed_point.md
R71, R72). -/

namespace Sys2Proof.Machine

/-- `FXP.POS(low, high)` (40_fixed_point.md R71); it takes `high` 0 to 127 only (log 10). -/
def execFxpPos (low high : Byte) (s : State) : Answer :=
  if high.toNat ≤ consts.signThreshold then .next (s.give (.hundredths (fxpPos low high)))
  else .refused .operandOutsideRule

/-- `FXP.NEG(low, high)` (40_fixed_point.md R72); it takes `high` 128 to 255 only (log 10). -/
def execFxpNeg (low high : Byte) (s : State) : Answer :=
  if consts.signThreshold < high.toNat then .next (s.give (.hundredths (fxpNeg low high)))
  else .refused .operandOutsideRule

end Sys2Proof.Machine
end

