-- ==== Sys2Proof/Machine/FlagRows.lean ====
section
/-! DEFINITION. The flag family used alone (00_scope.md R9, 41_flags.md): the two unpackings and the sixteen flag rows
of spec/opcode_table.json. Each gives back the flags it names and no other, for every byte (R90, R109), and
reads nothing but its byte. -/

namespace Sys2Proof.Machine

/-- `FLG.PRI(b)` gives the eight primary flags (41_flags.md R91). -/
def execFlgPri (b : Byte) (s : State) : Answer := .next (s.give (.primaryFlags (flgPri b)))

/-- `general_power_switch` is bit 0 of the primary flags byte (41_flags.md R92). -/
def execFlgPriGeneralPowerSwitch (b : Byte) (s : State) : Answer :=
  .next (s.give (.flag .generalPowerSwitch (bitOf b 0)))

/-- `tap_water_switch` is bit 1 of the primary flags byte (41_flags.md R93). -/
def execFlgPriTapWaterSwitch (b : Byte) (s : State) : Answer := .next (s.give (.flag .tapWaterSwitch (bitOf b 1)))

/-- `room_thermostat` is bit 2 of the primary flags byte (41_flags.md R94). -/
def execFlgPriRoomThermostat (b : Byte) (s : State) : Answer := .next (s.give (.flag .roomThermostat (bitOf b 2)))

/-- `pump` is bit 3 of the primary flags byte (41_flags.md R95). -/
def execFlgPriPump (b : Byte) (s : State) : Answer := .next (s.give (.flag .pump (bitOf b 3)))

/-- `three_way_valve` is bit 4 of the primary flags byte (41_flags.md R96). -/
def execFlgPriThreeWayValve (b : Byte) (s : State) : Answer := .next (s.give (.flag .threeWayValve (bitOf b 4)))

/-- `alarm_status` is bit 5 of the primary flags byte (41_flags.md R97). -/
def execFlgPriAlarmStatus (b : Byte) (s : State) : Answer := .next (s.give (.flag .alarmStatus (bitOf b 5)))

/-- `ch_cascade_relay` is bit 6 of the primary flags byte (41_flags.md R98). -/
def execFlgPriChCascadeRelay (b : Byte) (s : State) : Answer := .next (s.give (.flag .chCascadeRelay (bitOf b 6)))

/-- `opentherm` is bit 7 of the primary flags byte (41_flags.md R99). -/
def execFlgPriOpentherm (b : Byte) (s : State) : Answer := .next (s.give (.flag .opentherm (bitOf b 7)))

/-- `FLG.SEC(b)` gives the eight secondary flags (41_flags.md R100). -/
def execFlgSec (b : Byte) (s : State) : Answer := .next (s.give (.secondaryFlags (flgSec b)))

/-- `gas_valve` is bit 0 of the secondary flags byte (41_flags.md R101). -/
def execFlgSecGasValve (b : Byte) (s : State) : Answer := .next (s.give (.flag .gasValve (bitOf b 0)))

/-- `spark` is bit 1 of the secondary flags byte (41_flags.md R102). -/
def execFlgSecSpark (b : Byte) (s : State) : Answer := .next (s.give (.flag .spark (bitOf b 1)))

/-- `io_signal` is bit 2 of the secondary flags byte (41_flags.md R103). -/
def execFlgSecIoSignal (b : Byte) (s : State) : Answer := .next (s.give (.flag .ioSignal (bitOf b 2)))

/-- `ch_opentherm_disabled` is bit 3 of the secondary flags byte (41_flags.md R104). -/
def execFlgSecChOpenthermDisabled (b : Byte) (s : State) : Answer :=
  .next (s.give (.flag .chOpenthermDisabled (bitOf b 3)))

/-- `low_water_pressure` is bit 4 of the secondary flags byte (41_flags.md R105). -/
def execFlgSecLowWaterPressure (b : Byte) (s : State) : Answer := .next (s.give (.flag .lowWaterPressure (bitOf b 4)))

/-- `pressure_sensor_present` is bit 5 of the secondary flags byte (41_flags.md R106). -/
def execFlgSecPressureSensorPresent (b : Byte) (s : State) : Answer :=
  .next (s.give (.flag .pressureSensorPresent (bitOf b consts.prsBit)))

/-- `burner_block` is bit 6 of the secondary flags byte (41_flags.md R107). -/
def execFlgSecBurnerBlock (b : Byte) (s : State) : Answer := .next (s.give (.flag .burnerBlock (bitOf b 6)))

/-- `gradient_flag` is bit 7 of the secondary flags byte (41_flags.md R108). -/
def execFlgSecGradientFlag (b : Byte) (s : State) : Answer := .next (s.give (.flag .gradientFlag (bitOf b 7)))

end Sys2Proof.Machine
end

