-- ==== Sys2Proof/Machine/FrameDecode.lean ====
section
/-! DEFINITION. The frame decoder: the length check, the pressure override, the label of the frame, and the whole
transaction (43_frame_decode.md R140, R158, R159, R160). -/

namespace Sys2Proof.Machine

/-- `press_raw` of the buffer, `FXP` of bytes 12 and 13, a line of 43_frame_decode.md R160 (R149). -/
def State.pressRaw (s : State) : Int := fxp (s.byteAt consts.offPress) (s.byteAt (consts.offPress + 1))

/-- `x <- FXP(buf[a], buf[a+1])`, a line of 43_frame_decode.md R160. -/
def State.fxAt (s : State) (a : Nat) : Int := fxp (s.byteAt a) (s.byteAt (a + 1))

/-- `ch_pressure` of the buffer (43_frame_decode.md R158, R160). -/
def State.chPressure (s : State) : ChPressure :=
  prsOvr s.pressRaw (flgSec (s.byteAt consts.offSflags)).pressureSensorPresent

/-- The record that `FRM.DEC` builds from the bytes of the buffer, line by line (43_frame_decode.md R160). -/
def State.telemetry (s : State) : BoilerTelemetry where
  flue                := s.fxAt consts.offFlue
  flow                := s.fxAt consts.offFlow
  return_             := s.fxAt consts.offRet
  domesticHotWater    := s.fxAt consts.offDhw
  boilerSensor        := s.fxAt consts.offBoiler
  outdoor             := s.fxAt consts.offOutdoor
  chPressure          := s.chPressure
  temperatureSetpoint := s.fxAt consts.offTset
  fanSpeedSetpoint    := s.fxAt consts.offFanset
  fanSpeedActual      := s.fxAt consts.offFanact
  fanPwm              := s.fxAt consts.offFanpwm
  ioCurrent           := s.fxAt consts.offIocur
  displayCode         := s.byteAt consts.offDcode
  primaryFlags        := flgPri (s.byteAt consts.offPflags)
  secondaryFlags      := flgSec (s.byteAt consts.offSflags)
  statusLabel         := lbl (s.byteAt consts.offDcode)

/-- The result of the transaction on the buffer now presented: a total function of the length and the bytes
(00_scope.md R8, 43_frame_decode.md R161). -/
def State.decoded (s : State) : Result :=
  if s.inLen = consts.frameLen then .ok s.telemetry else .err (.unexpectedLength consts.frameLen s.inLen)

/-- The assembly of the record from the result being built, when every field of it is there (43_frame_decode.md
R160, 70_reset_and_hazards.md R215). The raw pressure is no field (10_state.md R18). -/
def Build.assemble (b : Build) : Option BoilerTelemetry := do
  let flue ← b.flue
  let flow ← b.flow
  let return_ ← b.return_
  let domesticHotWater ← b.domesticHotWater
  let boilerSensor ← b.boilerSensor
  let outdoor ← b.outdoor
  let chPressure ← b.chPressure
  let temperatureSetpoint ← b.temperatureSetpoint
  let fanSpeedSetpoint ← b.fanSpeedSetpoint
  let fanSpeedActual ← b.fanSpeedActual
  let fanPwm ← b.fanPwm
  let ioCurrent ← b.ioCurrent
  let displayCode ← b.displayCode
  let primaryFlags ← b.primaryFlags
  let secondaryFlags ← b.secondaryFlags
  let statusLabel ← b.statusLabel
  return {
    flue, flow, return_, domesticHotWater, boilerSensor, outdoor, chPressure, temperatureSetpoint, fanSpeedSetpoint,
    fanSpeedActual, fanPwm, ioCurrent, displayCode, primaryFlags, secondaryFlags, statusLabel }

/-- `LEN.CHK`: a buffer of another length ends the transaction with the error; of length 32 it goes on, with nothing
built and nothing given back (43_frame_decode.md R140). No byte is read (20_memory.md R44). -/
def execLenChk (s : State) : Answer :=
  if s.inLen = consts.frameLen then .next s.goOn else .next s.raiseUnexpectedLength

/-- `PRS.OVR`: `ch_pressure` from the raw pressure that `FLD.PRESS` builds and the flag `pressure_sensor_present` that
`FLD.SFLAGS` builds (43_frame_decode.md R158). It reads no byte itself (20_memory.md R32) and changes no flag. Where
the operands come from is log 2, the stop without a frame log 9. -/
def execPrsOvr (s : State) : Answer :=
  match builtBy fldPress (·.pressRaw) s, builtBy fldSflags (·.secondaryFlags) s with
  | some pressRaw, some flags =>
    .next (s.putBuild { s.build with chPressure := some (prsOvr pressRaw flags.pressureSensorPresent) })
  | _, _ => .fault (.readOutsideFrame consts.offPress)

/-- `FRM.LABEL`: `status_label <- LBL(display_code)`, the code that `FLD.DCODE` builds (43_frame_decode.md R159). It
reads no byte itself (20_memory.md R32). Where the operand comes from is log 2, the stop without a frame log 9. -/
def execFrmLabel (s : State) : Answer :=
  match builtBy fldDcode (·.displayCode) s with
  | some code => .next (s.putBuild { s.build with statusLabel := some (lbl code) })
  | none => .fault (.readOutsideFrame consts.offDcode)

/-- `FRM.DEC`: the whole transaction, one result (43_frame_decode.md R160). -/
def execFrmDec (s : State) : Answer :=
  if s.inLen = consts.frameLen then .next (s.finish (.ok s.telemetry)) else .next s.raiseUnexpectedLength

end Sys2Proof.Machine
end

