-- ==== Sys2Proof/Machine/FrameSlots.lean ====
section
/-! DEFINITION. The fifteen field slots of the frame (43_frame_decode.md R142 to R157). -/

namespace Sys2Proof.Machine

/-- `FLD.FLUE`, offset 0 (43_frame_decode.md R143). -/
def execFldFlue (s : State) : Answer := fxSlot consts.offFlue s (fun h => { s.build with flue := some h })

/-- `FLD.FLOW`, offset 2 (43_frame_decode.md R144). -/
def execFldFlow (s : State) : Answer := fxSlot consts.offFlow s (fun h => { s.build with flow := some h })

/-- `FLD.RET`, offset 4 (43_frame_decode.md R145). -/
def execFldRet (s : State) : Answer := fxSlot consts.offRet s (fun h => { s.build with return_ := some h })

/-- `FLD.DHW`, offset 6 (43_frame_decode.md R146). -/
def execFldDhw (s : State) : Answer :=
  fxSlot consts.offDhw s (fun h => { s.build with domesticHotWater := some h })

/-- `FLD.BOILER`, offset 8 (43_frame_decode.md R147). -/
def execFldBoiler (s : State) : Answer :=
  fxSlot consts.offBoiler s (fun h => { s.build with boilerSensor := some h })

/-- `FLD.OUTDOOR`, offset 10 (43_frame_decode.md R148). -/
def execFldOutdoor (s : State) : Answer := fxSlot consts.offOutdoor s (fun h => { s.build with outdoor := some h })

/-- `FLD.PRESS`, offset 12 (43_frame_decode.md R149): the raw pressure, no field of the result. -/
def execFldPress (s : State) : Answer := fldPress s

/-- `FLD.TSET`, offset 14 (43_frame_decode.md R150). -/
def execFldTset (s : State) : Answer :=
  fxSlot consts.offTset s (fun h => { s.build with temperatureSetpoint := some h })

/-- `FLD.FANSET`, offset 16 (43_frame_decode.md R151). -/
def execFldFanset (s : State) : Answer :=
  fxSlot consts.offFanset s (fun h => { s.build with fanSpeedSetpoint := some h })

/-- `FLD.FANACT`, offset 18 (43_frame_decode.md R152). -/
def execFldFanact (s : State) : Answer :=
  fxSlot consts.offFanact s (fun h => { s.build with fanSpeedActual := some h })

/-- `FLD.FANPWM`, offset 20 (43_frame_decode.md R153). -/
def execFldFanpwm (s : State) : Answer := fxSlot consts.offFanpwm s (fun h => { s.build with fanPwm := some h })

/-- `FLD.IOCUR`, offset 22 (43_frame_decode.md R154). -/
def execFldIocur (s : State) : Answer := fxSlot consts.offIocur s (fun h => { s.build with ioCurrent := some h })

/-- `FLD.DCODE`, offset 24: the byte, unchanged (43_frame_decode.md R155). -/
def execFldDcode (s : State) : Answer := fldDcode s

/-- `FLD.PFLAGS`, offset 27 (43_frame_decode.md R156). -/
def execFldPflags (s : State) : Answer :=
  withByte consts.offPflags s (fun b => s.putBuild { s.build with primaryFlags := some (flgPri b) })

/-- `FLD.SFLAGS`, offset 29 (43_frame_decode.md R157). -/
def execFldSflags (s : State) : Answer := fldSflags s

end Sys2Proof.Machine
end

