-- ==== Sys2Proof/Machine/StatusLabel.lean ====
section
/-! DEFINITION. The status label family used alone (00_scope.md R9, 42_status_label.md). -/

namespace Sys2Proof.Machine

/-- `LBL.DHW`, code 51 (42_status_label.md R122). -/
def execLblDhw (s : State) : Answer := .next (s.give (.label ⟨.dhw, textDhw⟩))

/-- `LBL.CH_ACTIVE`, code 102 (42_status_label.md R123). -/
def execLblChActive (s : State) : Answer := .next (s.give (.label ⟨.chActive, textChActive⟩))

/-- `LBL.CH_IDLE`, code 126 (42_status_label.md R124). -/
def execLblChIdle (s : State) : Answer := .next (s.give (.label ⟨.chIdle, textChIdle⟩))

/-- `LBL.DHW_POST`, code 204 (42_status_label.md R125). -/
def execLblDhwPost (s : State) : Answer := .next (s.give (.label ⟨.dhwPost, textDhwPost⟩))

/-- `LBL.CH_POST`, code 231 (42_status_label.md R126). -/
def execLblChPost (s : State) : Answer := .next (s.give (.label ⟨.chPost, textChPost⟩))

/-- `LBL.UNKNOWN(code)` (42_status_label.md R127); it takes the 251 other codes only (R130, log 10). -/
def execLblUnknown (code : Byte) (s : State) : Answer :=
  if knownCode code then .refused .operandOutsideRule else .next (s.give (.label ⟨.unknown, unknownText code⟩))

end Sys2Proof.Machine
end

