-- ==== Sys2Proof/Machine/Dispatch.lean ====
section
/-! DEFINITION. One arm for each operation of the block. -/

namespace Sys2Proof.Machine

def exec (i : Instr) (s : State) : Host.Outcome State Fault Refusal :=
  match i with
  | .lenChk => Sys2Proof.Machine.execLenChk s
  | .fldFlue => Sys2Proof.Machine.execFldFlue s
  | .fldFlow => Sys2Proof.Machine.execFldFlow s
  | .fldRet => Sys2Proof.Machine.execFldRet s
  | .fldDhw => Sys2Proof.Machine.execFldDhw s
  | .fldBoiler => Sys2Proof.Machine.execFldBoiler s
  | .fldOutdoor => Sys2Proof.Machine.execFldOutdoor s
  | .fldPress => Sys2Proof.Machine.execFldPress s
  | .fldTset => Sys2Proof.Machine.execFldTset s
  | .fldFanset => Sys2Proof.Machine.execFldFanset s
  | .fldFanact => Sys2Proof.Machine.execFldFanact s
  | .fldFanpwm => Sys2Proof.Machine.execFldFanpwm s
  | .fldIocur => Sys2Proof.Machine.execFldIocur s
  | .fldDcode => Sys2Proof.Machine.execFldDcode s
  | .fldPflags => Sys2Proof.Machine.execFldPflags s
  | .fldSflags => Sys2Proof.Machine.execFldSflags s
  | .prsOvr => Sys2Proof.Machine.execPrsOvr s
  | .frmLabel => Sys2Proof.Machine.execFrmLabel s
  | .frmDec => Sys2Proof.Machine.execFrmDec s
  | .fxpPos low high => Sys2Proof.Machine.execFxpPos low high s
  | .fxpNeg low high => Sys2Proof.Machine.execFxpNeg low high s
  | .flgPri b => Sys2Proof.Machine.execFlgPri b s
  | .flgPriGeneralPowerSwitch b => Sys2Proof.Machine.execFlgPriGeneralPowerSwitch b s
  | .flgPriTapWaterSwitch b => Sys2Proof.Machine.execFlgPriTapWaterSwitch b s
  | .flgPriRoomThermostat b => Sys2Proof.Machine.execFlgPriRoomThermostat b s
  | .flgPriPump b => Sys2Proof.Machine.execFlgPriPump b s
  | .flgPriThreeWayValve b => Sys2Proof.Machine.execFlgPriThreeWayValve b s
  | .flgPriAlarmStatus b => Sys2Proof.Machine.execFlgPriAlarmStatus b s
  | .flgPriChCascadeRelay b => Sys2Proof.Machine.execFlgPriChCascadeRelay b s
  | .flgPriOpentherm b => Sys2Proof.Machine.execFlgPriOpentherm b s
  | .flgSec b => Sys2Proof.Machine.execFlgSec b s
  | .flgSecGasValve b => Sys2Proof.Machine.execFlgSecGasValve b s
  | .flgSecSpark b => Sys2Proof.Machine.execFlgSecSpark b s
  | .flgSecIoSignal b => Sys2Proof.Machine.execFlgSecIoSignal b s
  | .flgSecChOpenthermDisabled b => Sys2Proof.Machine.execFlgSecChOpenthermDisabled b s
  | .flgSecLowWaterPressure b => Sys2Proof.Machine.execFlgSecLowWaterPressure b s
  | .flgSecPressureSensorPresent b => Sys2Proof.Machine.execFlgSecPressureSensorPresent b s
  | .flgSecBurnerBlock b => Sys2Proof.Machine.execFlgSecBurnerBlock b s
  | .flgSecGradientFlag b => Sys2Proof.Machine.execFlgSecGradientFlag b s
  | .lblDhw => Sys2Proof.Machine.execLblDhw s
  | .lblChActive => Sys2Proof.Machine.execLblChActive s
  | .lblChIdle => Sys2Proof.Machine.execLblChIdle s
  | .lblDhwPost => Sys2Proof.Machine.execLblDhwPost s
  | .lblChPost => Sys2Proof.Machine.execLblChPost s
  | .lblUnknown code => Sys2Proof.Machine.execLblUnknown code s

end Sys2Proof.Machine
end

