-- ==== Sys2Proof/Machine/Step.lean ====
section
/-! DEFINITION. One step: the operation the caller asks for is applied once to the buffer now presented. The block's
own step is one whole transaction (00_scope.md R8, 10_state.md R13), the request `State.reset` holds. -/

namespace Sys2Proof.Machine

/-- One step (00_scope.md R8, R9). The request is the caller's and stays as it is. -/
def step (s : State) : Host.Outcome State Fault Refusal :=
  match s.fetch with
  | .ok i => exec i s
  | .error _ => .refused .noSuchOperation

/-- The caller selects the operation that a bare word of the table stands for, with its operand bytes (log 3). -/
def State.withFetchWord (s : State) (nbits w : Nat) : State := s.select (tableRequest nbits w)

end Sys2Proof.Machine
end

