-- ==== Sys2Proof/Machine/Ports.lean ====
section
/-! DEFINITION. The port-level view (10_state.md R22, R23): what the output ports carry, as a function of the inputs at
all times, with `LEN_W` an argument (00_scope.md R7, D4). The whole view is the spec's own choice (D4 to D8, D14). -/

namespace Sys2Proof.Machine

/-- The output ports (10_state.md R22). -/
structure OutPorts (lenW : Nat) where
  /-- `out_err`. -/
  outErr : BitVec 1
  /-- `err_expected`. -/
  errExpected : BitVec lenW
  /-- `err_actual`. -/
  errActual : BitVec lenW
  /-- `flue`. -/
  flue : BitVec Config.fxW
  /-- `flow`. -/
  flow : BitVec Config.fxW
  /-- `return_`. -/
  return_ : BitVec Config.fxW
  /-- `domestic_hot_water`. -/
  domesticHotWater : BitVec Config.fxW
  /-- `boiler_sensor`. -/
  boilerSensor : BitVec Config.fxW
  /-- `outdoor`. -/
  outdoor : BitVec Config.fxW
  /-- `ch_pressure`. -/
  chPressure : BitVec Config.fxW
  /-- `temperature_setpoint`. -/
  temperatureSetpoint : BitVec Config.fxW
  /-- `fan_speed_setpoint`. -/
  fanSpeedSetpoint : BitVec Config.fxW
  /-- `fan_speed_actual`. -/
  fanSpeedActual : BitVec Config.fxW
  /-- `fan_pwm`. -/
  fanPwm : BitVec Config.fxW
  /-- `io_current`. -/
  ioCurrent : BitVec Config.fxW
  /-- `ch_pressure_absent`. -/
  chPressureAbsent : BitVec 1
  /-- `display_code`. -/
  displayCode : Byte
  /-- `primary_flags`. -/
  primaryFlags : Byte
  /-- `secondary_flags`. -/
  secondaryFlags : Byte
  /-- `label_id`. -/
  labelId : BitVec Config.labelIdW
  deriving DecidableEq, Repr

/-- The two's complement pattern of a count of hundredths (10_state.md R22, D2). -/
def fxPort (h : Int) : BitVec Config.fxW := BitVec.ofInt Config.fxW h

/-- `ch_pressure_absent` (10_state.md R22, D7). -/
def ChPressure.absentPort : ChPressure → BitVec 1
  | .measured _ => 0#1
  | .sensorAbsent => 1#1

/-- The ports of an `Ok` result; the error side is unspecified (10_state.md R23): free values, log 12. -/
def OutPorts.ofOk (lenW draw : Nat) (t : BoilerTelemetry) : OutPorts lenW where
  outErr              := 0#1
  errExpected         := Config.freeLen lenW 0 draw
  errActual           := Config.freeLen lenW 1 draw
  flue                := fxPort t.flue
  flow                := fxPort t.flow
  return_             := fxPort t.return_
  domesticHotWater    := fxPort t.domesticHotWater
  boilerSensor        := fxPort t.boilerSensor
  outdoor             := fxPort t.outdoor
  chPressure          := fxPort t.chPressure.number
  temperatureSetpoint := fxPort t.temperatureSetpoint
  fanSpeedSetpoint    := fxPort t.fanSpeedSetpoint
  fanSpeedActual      := fxPort t.fanSpeedActual
  fanPwm              := fxPort t.fanPwm
  ioCurrent           := fxPort t.ioCurrent
  chPressureAbsent    := t.chPressure.absentPort
  displayCode         := t.displayCode
  primaryFlags        := t.primaryFlags.toByte
  secondaryFlags      := t.secondaryFlags.toByte
  labelId             := (labelIdOf t.displayCode).toPort

/-- The ports of an error (60_exceptions.md R197); every telemetry port is unspecified (10_state.md R23): free values,
log 12. -/
def OutPorts.ofErr (lenW draw expected actual : Nat) : OutPorts lenW where
  outErr              := 1#1
  errExpected         := BitVec.ofNat lenW expected
  errActual           := BitVec.ofNat lenW actual
  flue                := Config.freeFx 0 draw
  flow                := Config.freeFx 1 draw
  return_             := Config.freeFx 2 draw
  domesticHotWater    := Config.freeFx 3 draw
  boilerSensor        := Config.freeFx 4 draw
  outdoor             := Config.freeFx 5 draw
  chPressure          := Config.freeFx 6 draw
  temperatureSetpoint := Config.freeFx 7 draw
  fanSpeedSetpoint    := Config.freeFx 8 draw
  fanSpeedActual      := Config.freeFx 9 draw
  fanPwm              := Config.freeFx 10 draw
  ioCurrent           := Config.freeFx 11 draw
  chPressureAbsent    := Config.freeBit 0 draw
  displayCode         := Config.freeByte 0 draw
  primaryFlags        := Config.freeByte 1 draw
  secondaryFlags      := Config.freeByte 2 draw
  labelId             := Config.freeLabelId draw

/-- The ports of a result. -/
def OutPorts.ofResult (lenW draw : Nat) : Result → OutPorts lenW
  | .ok t => OutPorts.ofOk lenW draw t
  | .err (.unexpectedLength expected actual) => OutPorts.ofErr lenW draw expected actual

/-- `LEN_W` is at least 6 and the buffer's length fits it (00_scope.md R7, 44_transport_boundary.md R183). -/
def State.presentable (lenW : Nat) (s : State) : Bool :=
  decide (Config.lenWMin ≤ lenW) && decide (s.inLen < 2 ^ lenW)

/-- The output ports for the inputs now present: combinational, no transaction need have run (10_state.md R22, R26). A
length that does not fit is refused (60_exceptions.md R200, 93_implementation_defined.md U8). The unspecified side is
drawn afresh when a buffer is presented and when a transaction ends, and is steady in between. DESIGN CHOICE: log 12. -/
def State.outPorts (lenW : Nat) (s : State) : Except Refusal (OutPorts lenW) :=
  if s.presentable lenW then .ok (OutPorts.ofResult lenW s.draws s.decoded) else .error .lengthNotPresentable

end Sys2Proof.Machine
end

