-- ==== Sys2Proof/Safety.lean ====
section
/-! DEFINITION. What counts as a good state and a good run, in the terms the statements use. -/

namespace Sys2Proof.Machine

/-- The values that the operations of a frame give for the buffer now presented (43_frame_decode.md R160), all there. -/
def State.wires (s : State) : Build where
  flue                := some (s.fxAt consts.offFlue)
  flow                := some (s.fxAt consts.offFlow)
  return_             := some (s.fxAt consts.offRet)
  domesticHotWater    := some (s.fxAt consts.offDhw)
  boilerSensor        := some (s.fxAt consts.offBoiler)
  outdoor             := some (s.fxAt consts.offOutdoor)
  pressRaw            := some s.pressRaw
  temperatureSetpoint := some (s.fxAt consts.offTset)
  fanSpeedSetpoint    := some (s.fxAt consts.offFanset)
  fanSpeedActual      := some (s.fxAt consts.offFanact)
  fanPwm              := some (s.fxAt consts.offFanpwm)
  ioCurrent           := some (s.fxAt consts.offIocur)
  displayCode         := some (s.byteAt consts.offDcode)
  primaryFlags        := some (flgPri (s.byteAt consts.offPflags))
  secondaryFlags      := some (flgSec (s.byteAt consts.offSflags))
  chPressure          := some s.chPressure
  statusLabel         := some (lbl (s.byteAt consts.offDcode))

/-- Every entry that is there in `b` is the same in `w`. -/
structure Build.Within (b w : Build) : Prop where
  flue                : b.flue = none ∨ b.flue = w.flue
  flow                : b.flow = none ∨ b.flow = w.flow
  return_             : b.return_ = none ∨ b.return_ = w.return_
  domesticHotWater    : b.domesticHotWater = none ∨ b.domesticHotWater = w.domesticHotWater
  boilerSensor        : b.boilerSensor = none ∨ b.boilerSensor = w.boilerSensor
  outdoor             : b.outdoor = none ∨ b.outdoor = w.outdoor
  pressRaw            : b.pressRaw = none ∨ b.pressRaw = w.pressRaw
  temperatureSetpoint : b.temperatureSetpoint = none ∨ b.temperatureSetpoint = w.temperatureSetpoint
  fanSpeedSetpoint    : b.fanSpeedSetpoint = none ∨ b.fanSpeedSetpoint = w.fanSpeedSetpoint
  fanSpeedActual      : b.fanSpeedActual = none ∨ b.fanSpeedActual = w.fanSpeedActual
  fanPwm              : b.fanPwm = none ∨ b.fanPwm = w.fanPwm
  ioCurrent           : b.ioCurrent = none ∨ b.ioCurrent = w.ioCurrent
  displayCode         : b.displayCode = none ∨ b.displayCode = w.displayCode
  primaryFlags        : b.primaryFlags = none ∨ b.primaryFlags = w.primaryFlags
  secondaryFlags      : b.secondaryFlags = none ∨ b.secondaryFlags = w.secondaryFlags
  chPressure          : b.chPressure = none ∨ b.chPressure = w.chPressure
  statusLabel         : b.statusLabel = none ∨ b.statusLabel = w.statusLabel

/-- An output is a value that the block computes: the result of the buffer now presented, or a value of a helper on some
operand. -/
def Output.Of (s : State) : Output → Prop
  | .transaction r => r = s.decoded
  | .hundredths h => ∃ low high, h = fxp low high
  | .primaryFlags f => ∃ b, f = flgPri b
  | .secondaryFlags f => ∃ b, f = flgSec b
  | .flag _ value => ∃ b i, i < consts.nFlags ∧ value = bitOf b i
  | .label l => ∃ code, l = ⟨labelIdOf code, lbl code⟩

/-- What holds of the machine between steps. One snapshot: all that is built, and the result given, are of the buffer
now presented (20_memory.md R41, 70_reset_and_hazards.md R215). A record exists only for a buffer of 32 bytes
(10_state.md R19). A value given by a helper is a value of that helper. -/
structure State.Inv (s : State) : Prop where
  /-- The buffer is in canonical form. -/
  mem : Memory.wf s.mem
  /-- Nothing is built unless the length check passes (10_state.md R14 (a)). -/
  frame : s.build ≠ Build.empty → s.inLen = consts.frameLen
  /-- All that is built is of this buffer. -/
  built : s.build.Within s.wires
  /-- What the last step gave back is the result of this buffer or a value of a helper. -/
  output : ∀ o, s.output = some o → o.Of s

/-- The set a flag belongs to (10_state.md R15, R16). -/
def Flag.set : Flag → FlagSet
  | .generalPowerSwitch => .primary
  | .tapWaterSwitch => .primary
  | .roomThermostat => .primary
  | .pump => .primary
  | .threeWayValve => .primary
  | .alarmStatus => .primary
  | .chCascadeRelay => .primary
  | .opentherm => .primary
  | .gasValve => .secondary
  | .spark => .secondary
  | .ioSignal => .secondary
  | .chOpenthermDisabled => .secondary
  | .lowWaterPressure => .secondary
  | .pressureSensorPresent => .secondary
  | .burnerBlock => .secondary
  | .gradientFlag => .secondary

/-- An operation whose operands are its own bytes or the length, so that it needs no frame in the buffer: every
operation but the slots, `PRS.OVR` and `FRM.LABEL` (20_memory.md R32, 43_frame_decode.md R140, R160). -/
def Instr.needsNoFrame (i : Instr) : Bool :=
  match i.format with
  | .none => decide (i = .lenChk)
  | .frame => decide (i = .frmDec)
  | .fx16 => true
  | .flag8 => true
  | .code8 => true

/-- Where an operation has its effect: it is well formed, and a frame is there if it reads one. -/
def State.ready (s : State) (i : Instr) : Prop :=
  i.wf = true ∧ (s.inLen = consts.frameLen ∨ Instr.needsNoFrame i = true)

/-- The step goes on with `b` as the result being built, and the buffer and its length are as they were. -/
def Builds (a : Answer) (s : State) (b : Build) : Prop :=
  ∃ t, a = .next t ∧ t.build = b ∧ t.mem = s.mem ∧ t.inLen = s.inLen

/-- One operation after another, stopping at the first that does not go on. -/
def runAll : List Instr → State → Answer
  | [], s => .next s
  | i :: rest, s =>
    match exec i s with
    | .next t => runAll rest t
    | .fault r => .fault r
    | .refused r => .refused r

/-- The operations of a frame after the length check, in the order of 43_frame_decode.md R160. -/
def frameOps : List Instr :=
  [.fldFlue, .fldFlow, .fldRet, .fldDhw, .fldBoiler, .fldOutdoor, .fldPress, .fldTset, .fldFanset, .fldFanact,
    .fldFanpwm, .fldIocur, .fldDcode, .fldPflags, .fldSflags, .prsOvr, .frmLabel]

end Sys2Proof.Machine
end

