-- ==== Sys2Proof/Certificates/Slice0/Obligations.lean ====
section
/-! DEFINITION. The statements about the block, from the numbered rules of the spec. -/

open Sys2Proof Sys2Proof.Machine

/-! ### Encoding -/

/-- O1. The operation map of 30_encoding.md R60 read both ways loses no operand bit. -/
def Obligations.DecodeOfEncodeIsTheOperation : Prop :=
  ∀ i : Instr, i.wf = true → decode (encode i) = .ok i

/-- O2. Each request has one meaning (30_encoding.md R60), and it is an operation on operands its rule takes. That a
request which no row names is rejected is the model's choice (log 1): R61 rejects a buffer only, by its length. -/
def Obligations.DecodedRequestIsItsEncoding : Prop :=
  ∀ (r : Request) (i : Instr), decode r = .ok i → i.wf = true ∧ encode i = r

/-- O3. 30_encoding.md R51 and 20_memory.md R39: which slot starts at which offset. That a request for a slot at any
other offset is rejected by name is the model's choice (log 1); R62 says of the reserved bytes that they are
ignored, which is `ReservedBytesChangeNothing`. -/
def Obligations.SlotsStartExactlyAtTheMappedOffsets : Prop :=
  decode ⟨.slot 0, []⟩ = .ok .fldFlue ∧
    decode ⟨.slot 2, []⟩ = .ok .fldFlow ∧
    decode ⟨.slot 4, []⟩ = .ok .fldRet ∧
    decode ⟨.slot 6, []⟩ = .ok .fldDhw ∧
    decode ⟨.slot 8, []⟩ = .ok .fldBoiler ∧
    decode ⟨.slot 10, []⟩ = .ok .fldOutdoor ∧
    decode ⟨.slot 12, []⟩ = .ok .fldPress ∧
    decode ⟨.slot 14, []⟩ = .ok .fldTset ∧
    decode ⟨.slot 16, []⟩ = .ok .fldFanset ∧
    decode ⟨.slot 18, []⟩ = .ok .fldFanact ∧
    decode ⟨.slot 20, []⟩ = .ok .fldFanpwm ∧
    decode ⟨.slot 22, []⟩ = .ok .fldIocur ∧
    decode ⟨.slot 24, []⟩ = .ok .fldDcode ∧
    decode ⟨.slot 27, []⟩ = .ok .fldPflags ∧
    decode ⟨.slot 29, []⟩ = .ok .fldSflags ∧
    ∀ offset : Nat, offset ∉ [0, 2, 4, 6, 8, 10, 12, 14, 16, 18, 20, 22, 24, 27, 29] →
      decode ⟨.slot offset, []⟩ = .error (.noSlotAt offset)

/-- O4. 30_encoding.md R52. The second clause rests on the model's choice that a bare word of sixteen bits is read
as FX16 (log 3), a request on log 1. -/
def Obligations.Fx16WordSelectsItsBranch : Prop :=
  ∀ low high : Byte,
    decode ⟨.fx16, [low, high]⟩ =
      .ok (if (high ++ low : BitVec 16).getLsbD 15 then .fxpNeg low high else .fxpPos low high) ∧
    decodeTableWord 16 (high ++ low : BitVec 16).toNat =
      some (if (high ++ low : BitVec 16).getLsbD 15 then .fxpNeg low high else .fxpPos low high) ∧
    ((high ++ low : BitVec 16).getLsbD 15 = true ↔ 127 < high.toNat)

/-- O5. Words written out from the encodings of R71, R72, R123, R127, R91, R106 and R155. A sanity statement. -/
def Obligations.SpecWordsDecode : Prop :=
  decode ⟨.fx16, [0x10#8, 0x27#8]⟩ = .ok (.fxpPos 0x10#8 0x27#8) ∧
    decode ⟨.fx16, [0x32#8, 0xC8#8]⟩ = .ok (.fxpNeg 0x32#8 0xC8#8) ∧
    decode ⟨.code8, [0b01100110#8]⟩ = .ok .lblChActive ∧
    decode ⟨.code8, [7#8]⟩ = .ok (.lblUnknown 7#8) ∧
    decode ⟨.flag8 .primary, [0x09#8]⟩ = .ok (.flgPri 0x09#8) ∧
    decode ⟨.flagBit .secondary 5, [0x20#8]⟩ = .ok (.flgSecPressureSensorPresent 0x20#8) ∧
    decode ⟨.slot 24, []⟩ = .ok .fldDcode

/-- O6. 00_scope.md R8, R9. That a request selects the operation is the model's own convention: log 1. -/
def Obligations.StepRunsTheDecodedOperation : Prop :=
  ∀ s : State,
    (∀ i, decode s.request = .ok i → step s = exec i s) ∧
    (∀ r, decode s.request = .error r → step s = .refused .noSuchOperation)

/-- O7. 00_scope.md R9: each operation can be applied; the selection is the model's own (log 1). -/
def Obligations.SelectedOperationRuns : Prop :=
  ∀ (s : State) (i : Instr), i.wf = true →
    step (s.select (encode i)) = exec i (s.select (encode i)) ∧
    s.select (encode i) = { s with request := encode i }

/-! ### The fixed-point decoder -/

/-- O8. 40_fixed_point.md R71, in hundredths. That the value of a helper used alone stands in `output`, in place of
what the step before gave, is the model's choice (log 7); high on the other side is
`OperandsOutsideTheRuleAreRefused`. -/
def Obligations.FxpPosIsHighTimes265PlusLow : Prop :=
  ∀ (low high : Byte) (s : State), high.toNat ≤ 127 →
    decode ⟨.fx16, [low, high]⟩ = .ok (.fxpPos low high) ∧
    exec (.fxpPos low high) s =
      .next { s with output := some (.hundredths ((high.toNat : Int) * 265 + low.toNat)) } ∧
    0 ≤ (high.toNat : Int) * 265 + low.toNat ∧ (high.toNat : Int) * 265 + low.toNat ≤ 33910

/-- O9. 40_fixed_point.md R72, in hundredths. That the value of a helper used alone stands in `output`, in place of
what the step before gave, is the model's choice (log 7); high on the other side is
`OperandsOutsideTheRuleAreRefused`. -/
def Obligations.FxpNegIsWholeUnitsMinusLow : Prop :=
  ∀ (low high : Byte) (s : State), 127 < high.toNat →
    decode ⟨.fx16, [low, high]⟩ = .ok (.fxpNeg low high) ∧
    (high ^^^ 255#8).toNat + 1 = 256 - high.toNat ∧
    exec (.fxpNeg low high) s =
      .next { s with
        output := some (.hundredths (-((((high ^^^ 255#8).toNat : Int) + 1) * 256 * 100) - low.toNat)) } ∧
    -3277055 ≤ -((((high ^^^ 255#8).toNat : Int) + 1) * 256 * 100) - low.toNat ∧
    -((((high ^^^ 255#8).toNat : Int) + 1) * 256 * 100) - low.toNat ≤ -25600

/-- O10. 40_fixed_point.md R70: the function the twelve slots use, total over bytes. -/
def Obligations.FxpChoosesItsBranchByTheHighByte : Prop :=
  ∀ low high : Byte,
    fxp low high =
      (if 127 < high.toNat then -((256 - (high.toNat : Int)) * 25600) - low.toNat
        else (high.toNat : Int) * 265 + low.toNat) ∧
    (127 < high.toNat ↔ high.getLsbD 7 = true)

/-- O11. 40_fixed_point.md R76. -/
def Obligations.FxpRangeAndPortWidth : Prop :=
  (∀ low high : Byte,
      (high.toNat ≤ 127 → 0 ≤ fxp low high ∧ fxp low high ≤ 33910) ∧
      (127 < high.toNat → -3277055 ≤ fxp low high ∧ fxp low high ≤ -25600) ∧
      -(2 ^ 22) ≤ fxp low high ∧ fxp low high < 2 ^ 22) ∧
    fxp 0#8 0#8 = 0 ∧ fxp 255#8 127#8 = 33910 ∧ fxp 0#8 255#8 = -25600 ∧ fxp 255#8 128#8 = -3277055 ∧
    fxp 255#8 128#8 < -(2 ^ 21)

/-- O12. 40_fixed_point.md R77 (a). -/
def Obligations.FxpIsInjective : Prop :=
  ∀ low high low' high' : Byte, fxp low high = fxp low' high' → low = low' ∧ high = high'

/-- O13. 40_fixed_point.md R77 (b), (c) and (e). That the sentinel is -3500 hundredths is the spec's own decision D7
(log 19). -/
def Obligations.FxpGapsAndSentinel : Prop :=
  ∀ low high : Byte,
    (∀ k g : Int, 0 ≤ k → k ≤ 126 → k * 265 + 256 ≤ g → g ≤ k * 265 + 264 → fxp low high ≠ g) ∧
    (∀ g : Int, -25599 ≤ g → g ≤ -1 → fxp low high ≠ g) ∧
    fxp low high ≠ -3500 ∧ fxp low high ≠ -35 ∧
    (fxp low high = 0 ↔ low = 0#8 ∧ high = 0#8)

/-- O14. 40_fixed_point.md R77 (d); the last clause, from the ranges of R76, is why it holds in one branch only. -/
def Obligations.FxpMonotoneOnlyWithinABranch : Prop :=
  ∀ low high low' high' : Byte,
    (high.toNat ≤ 127 → high'.toNat ≤ 127 → high.toNat * 256 + low.toNat < high'.toNat * 256 + low'.toNat →
      fxp low high < fxp low' high') ∧
    (127 < high.toNat → high.toNat < high'.toNat → fxp low high < fxp low' high') ∧
    (127 < high.toNat → low.toNat < low'.toNat → fxp low' high < fxp low high) ∧
    (high.toNat ≤ 127 → 127 < high'.toNat → fxp low' high' < fxp low high)

/-! ### The field slots -/

/-- O15. 43_frame_decode.md R143 to R154; FXP is pinned by `FxpChoosesItsBranchByTheHighByte`, the rest of the state
by `FrameOperationsWriteOnlyWhatTheyBuild`. -/
def Obligations.TwoByteSlotsGiveFxpOfTheirBytes : Prop :=
  ∀ s : State, s.inLen = 32 →
    Builds (exec .fldFlue s) s { s.build with flue := some (fxp (s.byteAt 0) (s.byteAt 1)) } ∧
    Builds (exec .fldFlow s) s { s.build with flow := some (fxp (s.byteAt 2) (s.byteAt 3)) } ∧
    Builds (exec .fldRet s) s { s.build with return_ := some (fxp (s.byteAt 4) (s.byteAt 5)) } ∧
    Builds (exec .fldDhw s) s { s.build with domesticHotWater := some (fxp (s.byteAt 6) (s.byteAt 7)) } ∧
    Builds (exec .fldBoiler s) s { s.build with boilerSensor := some (fxp (s.byteAt 8) (s.byteAt 9)) } ∧
    Builds (exec .fldOutdoor s) s { s.build with outdoor := some (fxp (s.byteAt 10) (s.byteAt 11)) } ∧
    Builds (exec .fldPress s) s { s.build with pressRaw := some (fxp (s.byteAt 12) (s.byteAt 13)) } ∧
    Builds (exec .fldTset s) s { s.build with temperatureSetpoint := some (fxp (s.byteAt 14) (s.byteAt 15)) } ∧
    Builds (exec .fldFanset s) s { s.build with fanSpeedSetpoint := some (fxp (s.byteAt 16) (s.byteAt 17)) } ∧
    Builds (exec .fldFanact s) s { s.build with fanSpeedActual := some (fxp (s.byteAt 18) (s.byteAt 19)) } ∧
    Builds (exec .fldFanpwm s) s { s.build with fanPwm := some (fxp (s.byteAt 20) (s.byteAt 21)) } ∧
    Builds (exec .fldIocur s) s { s.build with ioCurrent := some (fxp (s.byteAt 22) (s.byteAt 23)) }

/-- O16. 43_frame_decode.md R155. -/
def Obligations.DisplayCodeSlotCopiesByte24 : Prop :=
  ∀ s : State, s.inLen = 32 →
    Builds (exec .fldDcode s) s { s.build with displayCode := some (s.byteAt 24) }

/-- O17. 43_frame_decode.md R156 and R157. -/
def Obligations.FlagSlotsUnpackBytes27And29 : Prop :=
  ∀ s : State, s.inLen = 32 →
    Builds (exec .fldPflags s) s { s.build with primaryFlags := some {
        generalPowerSwitch := (s.byteAt 27).getLsbD 0,
        tapWaterSwitch := (s.byteAt 27).getLsbD 1,
        roomThermostat := (s.byteAt 27).getLsbD 2,
        pump := (s.byteAt 27).getLsbD 3,
        threeWayValve := (s.byteAt 27).getLsbD 4,
        alarmStatus := (s.byteAt 27).getLsbD 5,
        chCascadeRelay := (s.byteAt 27).getLsbD 6,
        opentherm := (s.byteAt 27).getLsbD 7 } } ∧
    Builds (exec .fldSflags s) s { s.build with secondaryFlags := some {
        gasValve := (s.byteAt 29).getLsbD 0,
        spark := (s.byteAt 29).getLsbD 1,
        ioSignal := (s.byteAt 29).getLsbD 2,
        chOpenthermDisabled := (s.byteAt 29).getLsbD 3,
        lowWaterPressure := (s.byteAt 29).getLsbD 4,
        pressureSensorPresent := (s.byteAt 29).getLsbD 5,
        burnerBlock := (s.byteAt 29).getLsbD 6,
        gradientFlag := (s.byteAt 29).getLsbD 7 } } ∧
    ∃ t, exec .prsOvr s = .next t ∧ t.build.primaryFlags = s.build.primaryFlags ∧
      t.build.secondaryFlags = s.build.secondaryFlags

/-- O18. 20_memory.md R33, R34 and R44: no byte is read, and 10_state.md R14 (a). The fault is the model's: log 9.
-/
def Obligations.FrameReadsStopWithoutAFrame : Prop :=
  ∀ s : State, s.inLen ≠ 32 →
    exec .fldFlue s = .fault (.readOutsideFrame 0) ∧
    exec .fldFlow s = .fault (.readOutsideFrame 2) ∧
    exec .fldRet s = .fault (.readOutsideFrame 4) ∧
    exec .fldDhw s = .fault (.readOutsideFrame 6) ∧
    exec .fldBoiler s = .fault (.readOutsideFrame 8) ∧
    exec .fldOutdoor s = .fault (.readOutsideFrame 10) ∧
    exec .fldPress s = .fault (.readOutsideFrame 12) ∧
    exec .fldTset s = .fault (.readOutsideFrame 14) ∧
    exec .fldFanset s = .fault (.readOutsideFrame 16) ∧
    exec .fldFanact s = .fault (.readOutsideFrame 18) ∧
    exec .fldFanpwm s = .fault (.readOutsideFrame 20) ∧
    exec .fldIocur s = .fault (.readOutsideFrame 22) ∧
    exec .fldDcode s = .fault (.readOutsideFrame 24) ∧
    exec .fldPflags s = .fault (.readOutsideFrame 27) ∧
    exec .fldSflags s = .fault (.readOutsideFrame 29) ∧
    exec .prsOvr s = .fault (.readOutsideFrame 12) ∧
    exec .frmLabel s = .fault (.readOutsideFrame 24)

/-! ### The pressure override and the label of the frame -/

/-- O19. 43_frame_decode.md R158. That an operand whose slot has not been applied yet is what the slot gives is the
model's (log 2, DEDUCED), that the step gives nothing back log 6, and that -35 is -3500 hundredths is the spec's
decision D7 (log 19). -/
def Obligations.PressureOverrideChoosesByBitFive : Prop :=
  ∀ s : State, s.inLen = 32 →
    exec .prsOvr s =
      .next { s with
        build := { s.build with
          chPressure := some (
            if (s.build.secondaryFlags.map (·.pressureSensorPresent)).getD ((s.byteAt 29).getLsbD 5)
            then .measured (s.build.pressRaw.getD (fxp (s.byteAt 12) (s.byteAt 13))) else .sensorAbsent) }
        output := none } ∧
    (s.build.Within s.wires →
      Builds (exec .prsOvr s) s { s.build with
        chPressure := some (if (s.byteAt 29).getLsbD 5 then .measured (fxp (s.byteAt 12) (s.byteAt 13))
          else .sensorAbsent) }) ∧
    (∀ h : Int, (ChPressure.measured h).number = h) ∧ ChPressure.sensorAbsent.number = -3500 ∧
    ∀ low high : Byte, (ChPressure.measured (fxp low high)).number ≠ -3500

/-- O20. 43_frame_decode.md R159. That an operand whose slot has not been applied yet is what the slot gives is the
model's (log 2, DEDUCED), that the step gives nothing back log 6. -/
def Obligations.FrameLabelIsTheLabelOfByte24 : Prop :=
  ∀ s : State, s.inLen = 32 →
    exec .frmLabel s =
      .next { s with
        build := { s.build with statusLabel := some (lbl (s.build.displayCode.getD (s.byteAt 24))) }
        output := none } ∧
    (s.build.Within s.wires →
      Builds (exec .frmLabel s) s { s.build with statusLabel := some (lbl (s.byteAt 24)) }) ∧
    ∃ t u, exec .fldDcode s = .next t ∧ exec .frmLabel t = .next u ∧
      u.build.statusLabel = some (lbl (s.byteAt 24)) ∧ u.build.displayCode = some (s.byteAt 24)

/-! ### The length check and the whole transaction -/

/-- O21. 43_frame_decode.md R140 and 60_exceptions.md R196. That nothing built and nothing given back earlier is
kept, that the draws advance and that the inputs stay presented is the model's (logs 6, 12, 21). -/
def Obligations.LengthCheckPassesOrEndsInTheError : Prop :=
  ∀ s : State,
    (s.inLen = 32 → exec .lenChk s = .next { s with output := none }) ∧
    (s.inLen ≠ 32 → exec .lenChk s =
      .next { s with
        build := Build.empty
        output := some (.transaction (.err (.unexpectedLength 32 s.inLen)))
        draws := s.draws + 1 })

/-- O22. 60_exceptions.md R190. That nothing built is kept, and that a passing LEN.CHK leaves no earlier result, is
the model's (log 6). -/
def Obligations.UnexpectedLengthExactlyForOtherLengths : Prop :=
  ∀ (s : State) (i : Instr), i = .lenChk ∨ i = .frmDec →
    ∃ t, exec i s = .next t ∧
      ((∃ e, t.result = some (.err e)) ↔ s.inLen ≠ 32) ∧
      (s.inLen ≠ 32 → t.result = some (.err (.unexpectedLength 32 s.inLen)) ∧ t.build = Build.empty)

/-- O23. 43_frame_decode.md R160. That nothing built is kept, that the draws advance and that the inputs stay
presented is the model's (logs 6, 12, 21). -/
def Obligations.FrameDecodeBuildsTheRecord : Prop :=
  ∀ s : State,
    (s.inLen = 32 → exec .frmDec s =
      .next { s with
        build := Build.empty
        draws := s.draws + 1
        output := some (.transaction (.ok {
          flue := fxp (s.byteAt 0) (s.byteAt 1),
          flow := fxp (s.byteAt 2) (s.byteAt 3),
          return_ := fxp (s.byteAt 4) (s.byteAt 5),
          domesticHotWater := fxp (s.byteAt 6) (s.byteAt 7),
          boilerSensor := fxp (s.byteAt 8) (s.byteAt 9),
          outdoor := fxp (s.byteAt 10) (s.byteAt 11),
          chPressure :=
            if (s.byteAt 29).getLsbD 5 then .measured (fxp (s.byteAt 12) (s.byteAt 13)) else .sensorAbsent,
          temperatureSetpoint := fxp (s.byteAt 14) (s.byteAt 15),
          fanSpeedSetpoint := fxp (s.byteAt 16) (s.byteAt 17),
          fanSpeedActual := fxp (s.byteAt 18) (s.byteAt 19),
          fanPwm := fxp (s.byteAt 20) (s.byteAt 21),
          ioCurrent := fxp (s.byteAt 22) (s.byteAt 23),
          displayCode := s.byteAt 24,
          primaryFlags := flgPri (s.byteAt 27), secondaryFlags := flgSec (s.byteAt 29),
          statusLabel := lbl (s.byteAt 24) })) }) ∧
    (s.inLen ≠ 32 → exec .frmDec s =
      .next { s with
        build := Build.empty
        output := some (.transaction (.err (.unexpectedLength 32 s.inLen)))
        draws := s.draws + 1 })

/-- O24. The expansion of FRM.DEC in 30_encoding.md R64 and 43_frame_decode.md R160. That a slot gives nothing back
is the model's (log 6). -/
def Obligations.OperationsOneByOneBuildTheSameRecord : Prop :=
  ∀ s : State, s.inLen = 32 →
    ∃ t u r, runAll (.lenChk :: frameOps) s = .next t ∧ t.build.assemble = some r ∧
      exec .frmDec s = .next u ∧ u.result = some (.ok r) ∧ t = { s with build := t.build, output := none }

/-- O25. 10_state.md R14: a model may evaluate the fields in any order. That the override or the label may come
before the slot that builds its operand is the model's reading (log 2). The premise is the clause `built` of
`State.Inv`, which `StepKeepsTheInvariant` keeps. -/
def Obligations.OrderOfTheFieldsCannotBeObserved : Prop :=
  ∀ s : State, s.inLen = 32 → s.build.Within s.wires → ∀ ops : List Instr, ops.Perm frameOps →
    runAll ops s = runAll frameOps s ∧ ∃ t, runAll ops s = .next t ∧ t.build = s.wires

/-- O26. 43_frame_decode.md R161. -/
def Obligations.EveryBufferHasAResult : Prop :=
  ∀ s : State, s.request = ⟨.frame, []⟩ →
    ∃ t r, step s = .next t ∧ t.result = some r ∧
      ((∃ rec, r = .ok rec) ↔ s.inLen = 32) ∧
      ((∃ expected actual, r = .err (.unexpectedLength expected actual)) ↔ s.inLen ≠ 32)

/-- O27. 43_frame_decode.md R162 and 60_exceptions.md R198: an error leaves no trace. That the same buffer is still
presented after a transaction, with no delivery between, is the model's choice (log 21, unsafe). -/
def Obligations.RepeatedTransactionGivesTheSameResult : Prop :=
  ∀ s t : State, s.request = ⟨.frame, []⟩ → step s = .next t →
    ∃ u, step t = .next u ∧ u.result = t.result ∧ u.mem = s.mem ∧ u.inLen = s.inLen ∧ u.request = s.request

/-- O28. 00_scope.md R2, 10_state.md R21. The delivery is the model's name for the transport's act (log 8). -/
def Obligations.ResultDependsOnlyOnTheDeliveredBuffer : Prop :=
  ∀ buf : List Byte, ∃ r, ∀ s : State, ∃ t, exec .frmDec (s.deliver buf) = .next t ∧ t.result = some r

/-- O29. 20_memory.md R43. -/
def Obligations.ReservedBytesChangeNothing : Prop :=
  ∀ s u : State, s.inLen = 32 → u.inLen = 32 →
    (∀ a, a < 32 → a ∉ [25, 26, 28, 30, 31] → s.byteAt a = u.byteAt a) →
    ∃ t v r, exec .frmDec s = .next t ∧ exec .frmDec u = .next v ∧ t.result = some r ∧ v.result = some r

/-- O30. 20_memory.md R44. -/
def Obligations.WrongLengthResultDependsOnTheLengthAlone : Prop :=
  ∀ s u : State, s.inLen ≠ 32 → u.inLen = s.inLen →
    ∃ t v, exec .frmDec s = .next t ∧ exec .frmDec u = .next v ∧
      t.result = some (.err (.unexpectedLength 32 s.inLen)) ∧ v.result = t.result

/-- O31. 43_frame_decode.md R158 and R163. That the number of an absent sensor is -3500 hundredths is the spec's own
decision D7, unsafe with respect to a device (log 19). -/
def Obligations.AbsentSensorHidesThePressureBytes : Prop :=
  ∀ s u : State, s.inLen = 32 → u.inLen = 32 → (s.byteAt 29).getLsbD 5 = false →
    (∀ a, a < 32 → a ∉ [12, 13, 25, 26, 28, 30, 31] → s.byteAt a = u.byteAt a) →
    ∃ t v r, exec .frmDec s = .next t ∧ exec .frmDec u = .next v ∧ t.result = some (.ok r) ∧
      v.result = some (.ok r) ∧ r.chPressure = .sensorAbsent ∧ r.chPressure.number = -3500

/-- O32. 43_frame_decode.md R163: FXP, FLG and LBL are injective. -/
def Obligations.ResultDeterminesTheBytesThatMatter : Prop :=
  ∀ s u t v : State, s.inLen = 32 → u.inLen = 32 → exec .frmDec s = .next t → exec .frmDec u = .next v →
    t.result = v.result →
    (∀ a, a ∈ [0, 1, 2, 3, 4, 5, 6, 7, 8, 9, 10, 11, 14, 15, 16, 17, 18, 19, 20, 21, 22, 23, 24, 27, 29] →
      s.byteAt a = u.byteAt a) ∧
    ((s.byteAt 29).getLsbD 5 = true → s.byteAt 12 = u.byteAt 12 ∧ s.byteAt 13 = u.byteAt 13)

/-- O33. 10_state.md R19 (c) and 43_frame_decode.md R158: the sentinel state excludes the measured state. That the
sentinel is -3500 hundredths is the spec's own decision D7, unsafe with respect to a device (log 19). -/
def Obligations.SentinelNumberExactlyWhenAbsent : Prop :=
  ∀ s : State, s.inLen = 32 →
    ∃ t r, exec .frmDec s = .next t ∧ t.result = some (.ok r) ∧
      (r.chPressure.number = -3500 ↔ r.chPressure = .sensorAbsent) ∧
      (r.chPressure = .sensorAbsent ↔ (s.byteAt 29).getLsbD 5 = false)

/-! ### The flags -/

/-- O34. 41_flags.md R91. That the value of a helper used alone stands in `output` is the model's choice (log 7). -/
def Obligations.FlgPriReadsEachBit : Prop :=
  ∀ (b : Byte) (s : State),
    exec (.flgPri b) s =
      .next { s with output := some (.primaryFlags {
        generalPowerSwitch := b.getLsbD 0,
        tapWaterSwitch := b.getLsbD 1,
        roomThermostat := b.getLsbD 2,
        pump := b.getLsbD 3,
        threeWayValve := b.getLsbD 4,
        alarmStatus := b.getLsbD 5,
        chCascadeRelay := b.getLsbD 6,
        opentherm := b.getLsbD 7 }) }

/-- O35. 41_flags.md R100. That the value of a helper used alone stands in `output` is the model's choice (log 7).
-/
def Obligations.FlgSecReadsEachBit : Prop :=
  ∀ (b : Byte) (s : State),
    exec (.flgSec b) s =
      .next { s with output := some (.secondaryFlags {
        gasValve := b.getLsbD 0,
        spark := b.getLsbD 1,
        ioSignal := b.getLsbD 2,
        chOpenthermDisabled := b.getLsbD 3,
        lowWaterPressure := b.getLsbD 4,
        pressureSensorPresent := b.getLsbD 5,
        burnerBlock := b.getLsbD 6,
        gradientFlag := b.getLsbD 7 }) }

/-- O36. 41_flags.md R92 to R99, selected as 30_encoding.md R60 says. That the one flag given back stands in
`output` is the model's choice (log 7), and so is that a request for a bit of 8 or more is rejected (log 1). -/
def Obligations.PrimaryFlagRowsReadTheirBit : Prop :=
  ∀ (b : Byte) (s : State),
    (decode ⟨.flagBit .primary 0, [b]⟩ = .ok (.flgPriGeneralPowerSwitch b) ∧
      exec (.flgPriGeneralPowerSwitch b) s =
        .next { s with output := some (.flag .generalPowerSwitch (b &&& 0x01#8 == 0x01#8)) }) ∧
    (decode ⟨.flagBit .primary 1, [b]⟩ = .ok (.flgPriTapWaterSwitch b) ∧
      exec (.flgPriTapWaterSwitch b) s =
        .next { s with output := some (.flag .tapWaterSwitch (b &&& 0x02#8 == 0x02#8)) }) ∧
    (decode ⟨.flagBit .primary 2, [b]⟩ = .ok (.flgPriRoomThermostat b) ∧
      exec (.flgPriRoomThermostat b) s =
        .next { s with output := some (.flag .roomThermostat (b &&& 0x04#8 == 0x04#8)) }) ∧
    (decode ⟨.flagBit .primary 3, [b]⟩ = .ok (.flgPriPump b) ∧
      exec (.flgPriPump b) s =
        .next { s with output := some (.flag .pump (b &&& 0x08#8 == 0x08#8)) }) ∧
    (decode ⟨.flagBit .primary 4, [b]⟩ = .ok (.flgPriThreeWayValve b) ∧
      exec (.flgPriThreeWayValve b) s =
        .next { s with output := some (.flag .threeWayValve (b &&& 0x10#8 == 0x10#8)) }) ∧
    (decode ⟨.flagBit .primary 5, [b]⟩ = .ok (.flgPriAlarmStatus b) ∧
      exec (.flgPriAlarmStatus b) s =
        .next { s with output := some (.flag .alarmStatus (b &&& 0x20#8 == 0x20#8)) }) ∧
    (decode ⟨.flagBit .primary 6, [b]⟩ = .ok (.flgPriChCascadeRelay b) ∧
      exec (.flgPriChCascadeRelay b) s =
        .next { s with output := some (.flag .chCascadeRelay (b &&& 0x40#8 == 0x40#8)) }) ∧
    (decode ⟨.flagBit .primary 7, [b]⟩ = .ok (.flgPriOpentherm b) ∧
      exec (.flgPriOpentherm b) s =
        .next { s with output := some (.flag .opentherm (b &&& 0x80#8 == 0x80#8)) }) ∧
    ∀ bit : Nat, 8 ≤ bit → decode ⟨.flagBit .primary bit, [b]⟩ = .error (.noFlagBit bit)

/-- O37. 41_flags.md R101 to R108, selected as 30_encoding.md R60 says. That the override reads bit 5 is
`PressureOverrideChoosesByBitFive`. That the one flag given back stands in `output` is the model's choice (log 7),
and so is that a request for a bit of 8 or more is rejected (log 1). -/
def Obligations.SecondaryFlagRowsReadTheirBit : Prop :=
  ∀ (b : Byte) (s : State),
    (decode ⟨.flagBit .secondary 0, [b]⟩ = .ok (.flgSecGasValve b) ∧
      exec (.flgSecGasValve b) s =
        .next { s with output := some (.flag .gasValve (b &&& 0x01#8 == 0x01#8)) }) ∧
    (decode ⟨.flagBit .secondary 1, [b]⟩ = .ok (.flgSecSpark b) ∧
      exec (.flgSecSpark b) s =
        .next { s with output := some (.flag .spark (b &&& 0x02#8 == 0x02#8)) }) ∧
    (decode ⟨.flagBit .secondary 2, [b]⟩ = .ok (.flgSecIoSignal b) ∧
      exec (.flgSecIoSignal b) s =
        .next { s with output := some (.flag .ioSignal (b &&& 0x04#8 == 0x04#8)) }) ∧
    (decode ⟨.flagBit .secondary 3, [b]⟩ = .ok (.flgSecChOpenthermDisabled b) ∧
      exec (.flgSecChOpenthermDisabled b) s =
        .next { s with output := some (.flag .chOpenthermDisabled (b &&& 0x08#8 == 0x08#8)) }) ∧
    (decode ⟨.flagBit .secondary 4, [b]⟩ = .ok (.flgSecLowWaterPressure b) ∧
      exec (.flgSecLowWaterPressure b) s =
        .next { s with output := some (.flag .lowWaterPressure (b &&& 0x10#8 == 0x10#8)) }) ∧
    (decode ⟨.flagBit .secondary 5, [b]⟩ = .ok (.flgSecPressureSensorPresent b) ∧
      exec (.flgSecPressureSensorPresent b) s =
        .next { s with output := some (.flag .pressureSensorPresent (b &&& 0x20#8 == 0x20#8)) }) ∧
    (decode ⟨.flagBit .secondary 6, [b]⟩ = .ok (.flgSecBurnerBlock b) ∧
      exec (.flgSecBurnerBlock b) s =
        .next { s with output := some (.flag .burnerBlock (b &&& 0x40#8 == 0x40#8)) }) ∧
    (decode ⟨.flagBit .secondary 7, [b]⟩ = .ok (.flgSecGradientFlag b) ∧
      exec (.flgSecGradientFlag b) s =
        .next { s with output := some (.flag .gradientFlag (b &&& 0x80#8 == 0x80#8)) }) ∧
    ∀ bit : Nat, 8 ≤ bit → decode ⟨.flagBit .secondary bit, [b]⟩ = .error (.noFlagBit bit)

/-- O38. 41_flags.md R109. That the flags stand in `output` is the model's choice (log 7). -/
def Obligations.FlagsRebuildTheByte : Prop :=
  ∀ (b c : Byte) (s : State),
    ∃ f g f' g', exec (.flgPri b) s = .next { s with output := some (.primaryFlags f) } ∧
      exec (.flgSec b) s = .next { s with output := some (.secondaryFlags g) } ∧
      exec (.flgPri c) s = .next { s with output := some (.primaryFlags f') } ∧
      exec (.flgSec c) s = .next { s with output := some (.secondaryFlags g') } ∧
      f.toByte = b ∧ g.toByte = b ∧ (f = f' → b = c) ∧ (g = g' → b = c)

/-! ### The status label -/

/-- O39. 42_status_label.md R122 to R126. The ids are the spec's decision D8 (log 19); that the label stands in
`output` is the model's choice (log 7). -/
def Obligations.TableCodesGiveTheirLabel : Prop :=
  ∀ s : State,
    (decode ⟨.code8, [51#8]⟩ = .ok .lblDhw ∧ LabelId.dhw.toPort = 1#3 ∧
      exec .lblDhw s =
        .next { s with output := some (.label ⟨.dhw, "Domestic hot water".toList⟩) }) ∧
    (decode ⟨.code8, [102#8]⟩ = .ok .lblChActive ∧ LabelId.chActive.toPort = 2#3 ∧
      exec .lblChActive s =
        .next { s with output := some (.label ⟨.chActive, "Central heating active".toList⟩) }) ∧
    (decode ⟨.code8, [126#8]⟩ = .ok .lblChIdle ∧ LabelId.chIdle.toPort = 3#3 ∧
      exec .lblChIdle s =
        .next { s with output := some (.label ⟨.chIdle, "Central heating idle".toList⟩) }) ∧
    (decode ⟨.code8, [204#8]⟩ = .ok .lblDhwPost ∧ LabelId.dhwPost.toPort = 4#3 ∧
      exec .lblDhwPost s =
        .next { s with output := some (.label ⟨.dhwPost, "Domestic hot water post-run".toList⟩) }) ∧
    (decode ⟨.code8, [231#8]⟩ = .ok .lblChPost ∧ LabelId.chPost.toPort = 5#3 ∧
      exec .lblChPost s =
        .next { s with output := some (.label ⟨.chPost, "Central heating post-run".toList⟩) })

/-- O40. 42_status_label.md R127, the decimal spelling being core Lean's own. Two and three digits are spelled by
the spec's decision D9, the id is D8 (log 19); that the label stands in `output` is the model's choice (log 7). -/
def Obligations.OtherCodesGiveUnknownWithTheDecimalCode : Prop :=
  ∀ (code : Byte) (s : State), code.toNat ∉ [51, 102, 126, 204, 231] →
    decode ⟨.code8, [code]⟩ = .ok (.lblUnknown code) ∧ LabelId.unknown.toPort = 0#3 ∧
    exec (.lblUnknown code) s =
      .next { s with
        output := some (.label ⟨.unknown, "Unknown (".toList ++ Nat.toDigits 10 code.toNat ++ [')']⟩) }

/-- O41. 42_status_label.md R121, the ids being the spec's decision D8 (log 19). That the ids 6 and 7 are refused is
the model's choice (log 13, after 93_implementation_defined.md U9), that the label stands in `output` log 7. -/
def Obligations.LabelTextFollowsFromIdAndCode : Prop :=
  ∀ (code : Byte) (s : State),
    ∃ i l, decode ⟨.code8, [code]⟩ = .ok i ∧ exec i s = .next { s with output := some (.label l) } ∧ l.text = lbl code ∧
      l.id.toPort =
        (if code = 51#8 then 1#3 else if code = 102#8 then 2#3 else if code = 126#8 then 3#3
          else if code = 204#8 then 4#3 else if code = 231#8 then 5#3 else 0#3) ∧
      labelTextOfPort l.id.toPort code = .ok (lbl code) ∧ l.id.toPort.toNat ≤ 5 ∧
      labelTextOfPort 6#3 code = .error .noSuchLabelId ∧ labelTextOfPort 7#3 code = .error .noSuchLabelId

/-- O42. 42_status_label.md R129 and R130, and R128 for the bytes. The clauses on ASCII and on one byte a character
are PRESUMED: the spec has them from its decision D8 and from general knowledge (93_implementation_defined.md G1):
log 11, unsafe for the bytes. -/
def Obligations.LabelsAreInjectiveAndBounded : Prop :=
  ∀ code code' : Byte,
    (lbl code = lbl code' → code = code') ∧ 11 ≤ (lbl code).length ∧ (lbl code).length ≤ 27 ∧
    (∀ c ∈ lbl code, c.toNat < 128) ∧ (Text.bytes (lbl code)).length = (lbl code).length ∧
    (Text.bytes (lbl code)).map (·.toNat) = (lbl code).map (·.toNat)

/-! ### All operations -/

/-- O43. 60_exceptions.md R192 and R200: nothing waits, nothing else is an error. That the inputs stay presented
after a transaction is the model's (log 21). -/
def Obligations.ReadyOperationsGoOn : Prop :=
  ∀ (i : Instr) (s : State), s.ready i →
    ∃ t, exec i s = .next t ∧ t.mem = s.mem ∧ t.inLen = s.inLen ∧ t.request = s.request

/-- O44. The operand ranges of 40_fixed_point.md R71, R72 and 42_status_label.md R127; the refusal is the model's:
log 10. -/
def Obligations.OperandsOutsideTheRuleAreRefused : Prop :=
  ∀ (i : Instr) (s : State), i.wf = false → exec i s = .refused .operandOutsideRule

/-- O45. 20_memory.md R41 and R42: the block writes no memory. That the inputs also stand after FRM.DEC or an error
ended the transaction is the model's choice (log 21, unsafe). -/
def Obligations.NoOperationWritesTheInputs : Prop :=
  ∀ (i : Instr) (s t : State), exec i s = .next t →
    t.mem = s.mem ∧ t.inLen = s.inLen ∧ t.request = s.request ∧ ∀ a, t.byteAt a = s.byteAt a

/-- O46. The frame of the helpers: 00_scope.md R9, 10_state.md R10 and R15, 41_flags.md R90. That a helper's value
stands in `output` until the next step or delivery is the model's choice (log 7). -/
def Obligations.HelpersWriteOnlyTheirAnswer : Prop :=
  ∀ (i : Instr) (s t : State), exec i s = .next t →
    (i.format = .fx16 ∨ i.format = .code8 ∨ i.format = .flag8 → t = { s with output := t.output }) ∧
    (i.format = .fx16 → ∃ h, t.output = some (.hundredths h)) ∧
    (i.format = .code8 → ∃ l, t.output = some (.label l)) ∧
    ((encode i).sel = .flag8 .primary → ∃ f, t.output = some (.primaryFlags f)) ∧
    ((encode i).sel = .flag8 .secondary → ∃ f, t.output = some (.secondaryFlags f)) ∧
    (∀ set bit, (encode i).sel = .flagBit set bit →
      ∃ name value, t.output = some (.flag name value) ∧ name.set = set) ∧
    (i.format = .frame ∨ i.format = .none → t.output = none ∨ ∃ r, t.output = some (.transaction r))

/-- O47. The frame of the slots: 43_frame_decode.md R142, 10_state.md R10 and R14. That nothing is given back is the
model's (log 6). -/
def Obligations.FrameOperationsWriteOnlyWhatTheyBuild : Prop :=
  ∀ (i : Instr) (s t : State), i ∈ frameOps → exec i s = .next t →
    s.inLen = 32 ∧ t = { s with build := t.build, output := none } ∧ (s.build.Within s.wires → t.build.Within t.wires)

/-! ### Invariants and reset -/

/-- O48. 10_state.md R19, 20_memory.md R41, 70_reset_and_hazards.md R215. That the buffer a result is of is still
presented after the transaction is the model's (log 21). -/
def Obligations.StepKeepsTheInvariant : Prop :=
  ∀ s t : State, s.Inv → step s = .next t → t.Inv

/-- O49. 10_state.md R26. -/
def Obligations.ResetHasTheInvariant : Prop :=
  State.reset.Inv

/-- O50. 10_state.md R26. The empty buffer, the request, and that nothing is built and nothing given back at reset
are the model's choices: logs 4, 1 and 6 (logs 4 and 6 unsafe). -/
def Obligations.ResetHoldsNothing : Prop :=
  State.reset.build = Build.empty ∧ State.reset.output = none ∧ State.reset.inLen = 0 ∧ State.reset.mem = [] ∧
    ∃ t, step State.reset = .next t ∧ t.result = some (.err (.unexpectedLength 32 0))

/-- O51. 44_transport_boundary.md R180 and R183. The two acts are the model's names for the transport's (log 8), and
that nothing is built and given back after them is log 6. -/
def Obligations.DeliveryEstablishesTheInvariant : Prop :=
  ∀ (s : State) (buf : List Byte), s.Inv →
    (s.deliver buf).Inv ∧ (s.deliver buf).inLen = buf.length ∧
    (∀ i (h : i < buf.length), (s.deliver buf).byteAt i = buf[i]) ∧
    (s.deliver buf).build = Build.empty ∧ (s.deliver buf).output = none ∧
    ∀ (lenW : Nat) (len : BitVec lenW) (wires : Vector Byte consts.frameLen),
      (s.present len wires).Inv ∧ (s.present len wires).inLen = len.toNat ∧
      (∀ i (h : i < 32), (s.present len wires).byteAt i = wires[i]'h) ∧
      (s.present len wires).build = Build.empty ∧ (s.present len wires).output = none

/-- O52. The canonical form of the frame buffer (20_memory.md R30); the form is the model's: log 5. -/
def Obligations.EqualBuffersAreEqualData : Prop :=
  ∀ m m' : List Host.Cell, Memory.wf m → Memory.wf m' → (∀ a, Memory.read m a = Memory.read m' a) → m = m'

/-! ### The ports -/

/-- O53. 10_state.md R22; the port list is the spec's own decision (92_eei_decisions.md D4 to D8, D14), taken over
in log 19. -/
def Obligations.PortsCarryTheRecord : Prop :=
  ∀ (lenW : Nat) (s : State), 6 ≤ lenW → s.inLen = 32 →
    ∃ p, s.outPorts lenW = .ok p ∧ p.outErr = 0#1 ∧
      p.flue.toInt = fxp (s.byteAt 0) (s.byteAt 1) ∧
      p.flow.toInt = fxp (s.byteAt 2) (s.byteAt 3) ∧
      p.return_.toInt = fxp (s.byteAt 4) (s.byteAt 5) ∧
      p.domesticHotWater.toInt = fxp (s.byteAt 6) (s.byteAt 7) ∧
      p.boilerSensor.toInt = fxp (s.byteAt 8) (s.byteAt 9) ∧
      p.outdoor.toInt = fxp (s.byteAt 10) (s.byteAt 11) ∧
      p.temperatureSetpoint.toInt = fxp (s.byteAt 14) (s.byteAt 15) ∧
      p.fanSpeedSetpoint.toInt = fxp (s.byteAt 16) (s.byteAt 17) ∧
      p.fanSpeedActual.toInt = fxp (s.byteAt 18) (s.byteAt 19) ∧
      p.fanPwm.toInt = fxp (s.byteAt 20) (s.byteAt 21) ∧
      p.ioCurrent.toInt = fxp (s.byteAt 22) (s.byteAt 23) ∧
      p.chPressure.toInt =
        (if (s.byteAt 29).getLsbD 5 then fxp (s.byteAt 12) (s.byteAt 13) else -3500) ∧
      p.chPressureAbsent = (if (s.byteAt 29).getLsbD 5 then 0#1 else 1#1) ∧
      p.displayCode = s.byteAt 24 ∧ p.primaryFlags = s.byteAt 27 ∧ p.secondaryFlags = s.byteAt 29 ∧
      labelTextOfPort p.labelId p.displayCode = .ok (lbl (s.byteAt 24))

/-- O54. 60_exceptions.md R197 and 93_implementation_defined.md U8. The port list and the error's encoding, out_err
and the two lengths, are the spec's own decisions D4 to D6 (log 19); the refusal is the model's (log 13). -/
def Obligations.PortsCarryTheError : Prop :=
  ∀ (lenW : Nat) (s : State),
    (s.inLen ≠ 32 → 6 ≤ lenW → s.inLen < 2 ^ lenW →
      ∃ p, s.outPorts lenW = .ok p ∧ p.outErr = 1#1 ∧ p.errExpected.toNat = 32 ∧ p.errActual.toNat = s.inLen) ∧
    (lenW < 6 ∨ 2 ^ lenW ≤ s.inLen → s.outPorts lenW = .error .lengthNotPresentable)

/-! ### No history -/

/-- O55. 10_state.md R25: no history, and nothing is read but the current buffer and the constants; R10 and R15: no
flag survives. That each step replaces what the one before gave back is the model's choice (logs 6 and 7). -/
def Obligations.NoOperationReadsWhatAnEarlierStepGave : Prop :=
  (∀ (i : Instr) (s : State) (o : Option Output), exec i { s with output := o } = exec i s) ∧
    (∀ (i : Instr) (s t u : State), i.format = .fx16 ∨ i.format = .flag8 ∨ i.format = .code8 →
      exec i s = .next t → exec i u = .next { u with output := t.output }) ∧
    ∀ (i : Instr) (s u : State), i = .frmDec ∨ i = .lenChk → s.inLen = u.inLen → s.mem = u.mem →
      ∃ t v, exec i s = .next t ∧ exec i u = .next v ∧ t.output = v.output
end

