-- ==== Sys2Proof/Laws/Decode.lean ====
section
/-! SUPPORT. The parts of the decoder, each said once: which operand lists it takes and which offsets have a slot. -/

namespace Sys2Proof

theorem noOperand_cases {i j : Instr} {bytes : List Byte} (h : noOperand i bytes = .ok j) : bytes = [] ∧ i = j := by
  cases bytes with
  | nil => cases h; exact ⟨rfl, rfl⟩
  | cons _ _ => cases h

theorem oneByte_cases {f : Byte → Except DecodeReject Instr} {bytes : List Byte} {i : Instr}
    (h : oneByte f bytes = .ok i) : ∃ b, bytes = [b] ∧ f b = .ok i := by
  match bytes with
  | [b] => exact ⟨b, rfl, h⟩
  | [] => cases h
  | _ :: _ :: _ => cases h

theorem twoBytes_cases {f : Byte → Byte → Except DecodeReject Instr} {bytes : List Byte} {i : Instr}
    (h : twoBytes f bytes = .ok i) : ∃ low high, bytes = [low, high] ∧ f low high = .ok i := by
  match bytes with
  | [low, high] => exact ⟨low, high, rfl, h⟩
  | [] => cases h
  | [_] => cases h
  | _ :: _ :: _ :: _ => cases h

theorem mem_of_lookup {α : Type} {o : Nat} {i : α} {table : List (Nat × α)} (h : table.lookup o = some i) :
    (o, i) ∈ table := by
  induction table with
  | nil => cases h
  | cons row rest ih =>
    obtain ⟨a, j⟩ := row
    rw [List.lookup_cons] at h
    split at h
    · next he => simp at he h; simp [he, h]
    · exact List.mem_cons_of_mem _ (ih h)

/-- A slot that is found is a row of the slot table. -/
theorem decodeSlot_cases {offset : Nat} {i : Instr} (h : decodeSlot offset = .ok i) : (offset, i) ∈ slotTable := by
  unfold decodeSlot at h
  split at h
  · next k hk => cases h; exact mem_of_lookup hk
  · cases h

/-- A flag row that is found is a row of the table of its set. -/
theorem decodeFlagBit_cases {set : FlagSet} {bit : Nat} {b : Byte} {i : Instr} (h : decodeFlagBit set bit b = .ok i) :
    ∃ row, (bit, row) ∈ flagTable set ∧ i = row b := by
  unfold decodeFlagBit at h
  split at h
  · next row hr => cases h; exact ⟨row, mem_of_lookup hr, rfl⟩
  · cases h

/-- The selection changes the request and nothing else, so the next fetch is the operation selected. -/
theorem Machine.State.fetch_select (s : Machine.State) (r : Request) : (s.select r).fetch = decode r := rfl

/-- A bare word of the table is fetched as the operation the decoder reads from it. -/
theorem Machine.State.fetch_withFetchWord (s : Machine.State) (nbits w : Nat) :
    (s.withFetchWord nbits w).fetch = decode (tableRequest nbits w) := rfl

end Sys2Proof
end

