-- ==== Sys2Proof/Laws/State.lean ====
section
/-! SUPPORT. One lemma for each field of State under each named update, and what the reads of the buffer see of them. -/

namespace Sys2Proof.Machine

/-! ### `State.deliver` -/

@[simp] theorem State.deliver_request (s : State) (buf : List Byte) : (s.deliver buf).request = s.request := rfl
@[simp] theorem State.deliver_inLen (s : State) (buf : List Byte) : (s.deliver buf).inLen = buf.length := rfl
@[simp] theorem State.deliver_mem (s : State) (buf : List Byte) : (s.deliver buf).mem = Memory.load [] 0 buf := rfl
@[simp] theorem State.deliver_build (s : State) (buf : List Byte) : (s.deliver buf).build = Build.empty := rfl
@[simp] theorem State.deliver_output (s : State) (buf : List Byte) : (s.deliver buf).output = none := rfl
@[simp] theorem State.deliver_draws (s : State) (buf : List Byte) : (s.deliver buf).draws = s.draws + 1 := rfl

/-! ### `State.present` -/

@[simp] theorem State.present_request (s : State) {lenW : Nat} (inLen : BitVec lenW) (inData : Vector Byte consts.frameLen) :
    (s.present inLen inData).request = s.request := rfl
@[simp] theorem State.present_inLen (s : State) {lenW : Nat} (inLen : BitVec lenW) (inData : Vector Byte consts.frameLen) :
    (s.present inLen inData).inLen = inLen.toNat := rfl
@[simp] theorem State.present_mem (s : State) {lenW : Nat} (inLen : BitVec lenW) (inData : Vector Byte consts.frameLen) :
    (s.present inLen inData).mem = Memory.load [] 0 inData.toList := rfl
@[simp] theorem State.present_build (s : State) {lenW : Nat} (inLen : BitVec lenW) (inData : Vector Byte consts.frameLen) :
    (s.present inLen inData).build = Build.empty := rfl
@[simp] theorem State.present_output (s : State) {lenW : Nat} (inLen : BitVec lenW) (inData : Vector Byte consts.frameLen) :
    (s.present inLen inData).output = none := rfl
@[simp] theorem State.present_draws (s : State) {lenW : Nat} (inLen : BitVec lenW) (inData : Vector Byte consts.frameLen) :
    (s.present inLen inData).draws = s.draws + 1 := rfl

/-! ### `State.select` -/

@[simp] theorem State.select_request (s : State) (r : Request) : (s.select r).request = r := rfl
@[simp] theorem State.select_inLen (s : State) (r : Request) : (s.select r).inLen = s.inLen := rfl
@[simp] theorem State.select_mem (s : State) (r : Request) : (s.select r).mem = s.mem := rfl
@[simp] theorem State.select_build (s : State) (r : Request) : (s.select r).build = s.build := rfl
@[simp] theorem State.select_output (s : State) (r : Request) : (s.select r).output = s.output := rfl
@[simp] theorem State.select_draws (s : State) (r : Request) : (s.select r).draws = s.draws := rfl

@[simp] theorem State.select_byteAt (s : State) (r : Request) (addr : Nat) :
    (s.select r).byteAt addr = s.byteAt addr := rfl

/-! ### `State.goOn` -/

@[simp] theorem State.goOn_request (s : State) : (s.goOn).request = s.request := rfl
@[simp] theorem State.goOn_inLen (s : State) : (s.goOn).inLen = s.inLen := rfl
@[simp] theorem State.goOn_mem (s : State) : (s.goOn).mem = s.mem := rfl
@[simp] theorem State.goOn_build (s : State) : (s.goOn).build = s.build := rfl
@[simp] theorem State.goOn_output (s : State) : (s.goOn).output = none := rfl
@[simp] theorem State.goOn_draws (s : State) : (s.goOn).draws = s.draws := rfl

@[simp] theorem State.goOn_byteAt (s : State) (addr : Nat) :
    (s.goOn).byteAt addr = s.byteAt addr := rfl

/-! ### `State.putBuild` -/

@[simp] theorem State.putBuild_request (s : State) (b : Build) : (s.putBuild b).request = s.request := rfl
@[simp] theorem State.putBuild_inLen (s : State) (b : Build) : (s.putBuild b).inLen = s.inLen := rfl
@[simp] theorem State.putBuild_mem (s : State) (b : Build) : (s.putBuild b).mem = s.mem := rfl
@[simp] theorem State.putBuild_build (s : State) (b : Build) : (s.putBuild b).build = b := rfl
@[simp] theorem State.putBuild_output (s : State) (b : Build) : (s.putBuild b).output = none := rfl
@[simp] theorem State.putBuild_draws (s : State) (b : Build) : (s.putBuild b).draws = s.draws := rfl

@[simp] theorem State.putBuild_byteAt (s : State) (b : Build) (addr : Nat) :
    (s.putBuild b).byteAt addr = s.byteAt addr := rfl

/-! ### `State.give` -/

@[simp] theorem State.give_request (s : State) (o : Output) : (s.give o).request = s.request := rfl
@[simp] theorem State.give_inLen (s : State) (o : Output) : (s.give o).inLen = s.inLen := rfl
@[simp] theorem State.give_mem (s : State) (o : Output) : (s.give o).mem = s.mem := rfl
@[simp] theorem State.give_build (s : State) (o : Output) : (s.give o).build = s.build := rfl
@[simp] theorem State.give_output (s : State) (o : Output) : (s.give o).output = some o := rfl
@[simp] theorem State.give_draws (s : State) (o : Output) : (s.give o).draws = s.draws := rfl

@[simp] theorem State.give_byteAt (s : State) (o : Output) (addr : Nat) :
    (s.give o).byteAt addr = s.byteAt addr := rfl

/-! ### `State.finish` -/

@[simp] theorem State.finish_request (s : State) (r : Result) : (s.finish r).request = s.request := rfl
@[simp] theorem State.finish_inLen (s : State) (r : Result) : (s.finish r).inLen = s.inLen := rfl
@[simp] theorem State.finish_mem (s : State) (r : Result) : (s.finish r).mem = s.mem := rfl
@[simp] theorem State.finish_build (s : State) (r : Result) : (s.finish r).build = Build.empty := rfl
@[simp] theorem State.finish_output (s : State) (r : Result) : (s.finish r).output = some (.transaction r) := rfl
@[simp] theorem State.finish_draws (s : State) (r : Result) : (s.finish r).draws = s.draws + 1 := rfl

@[simp] theorem State.finish_byteAt (s : State) (r : Result) (addr : Nat) :
    (s.finish r).byteAt addr = s.byteAt addr := rfl

/-! ### `State.raiseUnexpectedLength` -/

@[simp] theorem State.raiseUnexpectedLength_request (s : State) : (s.raiseUnexpectedLength).request = s.request := rfl
@[simp] theorem State.raiseUnexpectedLength_inLen (s : State) : (s.raiseUnexpectedLength).inLen = s.inLen := rfl
@[simp] theorem State.raiseUnexpectedLength_mem (s : State) : (s.raiseUnexpectedLength).mem = s.mem := rfl
@[simp] theorem State.raiseUnexpectedLength_build (s : State) : (s.raiseUnexpectedLength).build = Build.empty := rfl
@[simp] theorem State.raiseUnexpectedLength_output (s : State) :
    (s.raiseUnexpectedLength).output = some (.transaction (.err (.unexpectedLength consts.frameLen s.inLen))) := rfl
@[simp] theorem State.raiseUnexpectedLength_draws (s : State) : (s.raiseUnexpectedLength).draws = s.draws + 1 := rfl

@[simp] theorem State.raiseUnexpectedLength_byteAt (s : State) (addr : Nat) :
    (s.raiseUnexpectedLength).byteAt addr = s.byteAt addr := rfl

/-! ### `State.result` -/

theorem State.result_eq_some {s : State} {r : Result} : s.result = some r ↔ s.output = some (.transaction r) := by
  unfold State.result
  split
  · next q h => rw [h]; simp
  · next h => exact ⟨(fun e => nomatch e), fun e => absurd e (h r)⟩

@[simp] theorem State.deliver_result (s : State) (buf : List Byte) : (s.deliver buf).result = none := rfl
@[simp] theorem State.present_result (s : State) {lenW : Nat} (inLen : BitVec lenW) (inData : Vector Byte consts.frameLen) :
    (s.present inLen inData).result = none := rfl
@[simp] theorem State.goOn_result (s : State) : s.goOn.result = none := rfl
@[simp] theorem State.putBuild_result (s : State) (b : Build) : (s.putBuild b).result = none := rfl
@[simp] theorem State.finish_result (s : State) (r : Result) : (s.finish r).result = some r := rfl

/-- A state is its six fields. -/
theorem State.ext_fields {s t : State} (h1 : s.request = t.request) (h2 : s.inLen = t.inLen) (h3 : s.mem = t.mem)
    (h4 : s.build = t.build) (h5 : s.output = t.output) (h6 : s.draws = t.draws) : s = t := by
  cases s; cases t; simp_all

end Sys2Proof.Machine
end

