-- ==== Sys2Proof/Laws/Memory.lean ====
section
/-! SUPPORT. The laws of the frame buffer: what a read sees after a write, and that every operation keeps the canonical
form. -/

namespace Sys2Proof.Machine

/-- Every listed offset is at least `lo`. -/
def Memory.From (lo : Nat) (m : List Host.Cell) : Prop := ∀ c ∈ m, lo ≤ c.1

theorem Memory.wf_nil : Memory.wf [] := ⟨List.Pairwise.nil, by simp⟩

theorem Memory.wf_tail {c : Host.Cell} {m : List Host.Cell} (h : Memory.wf (c :: m)) : Memory.wf m :=
  ⟨(List.pairwise_cons.1 h.1).2, fun d hd => h.2 d (List.mem_cons_of_mem _ hd)⟩

theorem Memory.from_tail {a : Nat} {b : Byte} {m : List Host.Cell} (h : Memory.wf ((a, b) :: m)) :
    Memory.From (a + 1) m :=
  fun d hd => (List.pairwise_cons.1 h.1).1 d hd

/-- An offset below every listed one reads as an unlisted offset. -/
theorem Memory.read_below {m : List Host.Cell} {lo addr : Nat} (hm : Memory.From lo m) (h : addr < lo) :
    Memory.read m addr = Memory.blank := by
  induction m with
  | nil => rfl
  | cons c rest ih =>
    obtain ⟨a, b⟩ := c
    have ha : lo ≤ a := hm (a, b) (by simp)
    rw [Memory.read, if_neg (by omega)]
    exact ih fun d hd => hm d (List.mem_cons_of_mem _ hd)

theorem Memory.cons_wf {addr : Nat} {b : Byte} {m : List Host.Cell} (hm : Memory.wf m)
    (hf : Memory.From (addr + 1) m) : Memory.wf (Memory.cons addr b m) := by
  unfold Memory.cons
  split
  · exact hm
  · next hb =>
    refine ⟨List.pairwise_cons.2 ⟨fun d hd => hf d hd, hm.1⟩, fun d hd => ?_⟩
    rcases List.mem_cons.1 hd with rfl | hd
    · exact hb
    · exact hm.2 d hd

theorem Memory.cons_from {lo addr : Nat} {b : Byte} {m : List Host.Cell} (ha : lo ≤ addr) (hf : Memory.From lo m) :
    Memory.From lo (Memory.cons addr b m) := by
  intro d hd
  unfold Memory.cons at hd
  split at hd
  · exact hf d hd
  · rcases List.mem_cons.1 hd with rfl | hd
    · exact ha
    · exact hf d hd

theorem Memory.read_cons {addr x : Nat} {b : Byte} {m : List Host.Cell} (hf : Memory.From (addr + 1) m) :
    Memory.read (Memory.cons addr b m) x = if x = addr then b else Memory.read m x := by
  unfold Memory.cons
  split
  · next hb =>
    split
    · next hx => subst hx; rw [hb]; exact Memory.read_below hf (Nat.lt_succ_self _)
    · rfl
  · rw [Memory.read]; simp only [eq_comm]

theorem Memory.from_mono {lo lo' : Nat} {m : List Host.Cell} (h : lo' ≤ lo) (hf : Memory.From lo m) :
    Memory.From lo' m :=
  fun d hd => le_trans h (hf d hd)

theorem Memory.write_from {lo addr : Nat} {b : Byte} {m : List Host.Cell} (ha : lo ≤ addr) (hf : Memory.From lo m) :
    Memory.From lo (Memory.write m addr b) := by
  induction m with
  | nil => exact Memory.cons_from ha hf
  | cons c rest ih =>
    obtain ⟨a, v⟩ := c
    have hr : Memory.From lo rest := fun d hd => hf d (List.mem_cons_of_mem _ hd)
    rw [Memory.write]
    split
    · exact Memory.cons_from ha hf
    · split
      · exact Memory.cons_from ha hr
      · intro d hd
        rcases List.mem_cons.1 hd with rfl | hd
        · exact hf _ (by simp)
        · exact ih hr d hd

/-- A write keeps the canonical form. -/
theorem Memory.write_wf {m : List Host.Cell} (hm : Memory.wf m) (addr : Nat) (b : Byte) :
    Memory.wf (Memory.write m addr b) := by
  induction m with
  | nil => exact Memory.cons_wf hm fun _ hd => by simp at hd
  | cons c rest ih =>
    obtain ⟨a, v⟩ := c
    have hf := Memory.from_tail hm
    rw [Memory.write]
    split
    · next h =>
      refine Memory.cons_wf hm fun d hd => ?_
      rcases List.mem_cons.1 hd with rfl | hd
      · exact h
      · have := hf d hd; omega
    · split
      · next h => exact Memory.cons_wf (Memory.wf_tail hm) (h ▸ hf)
      · next h1 h2 =>
        have hw := ih (Memory.wf_tail hm)
        refine ⟨List.pairwise_cons.2 ⟨fun d hd => ?_, hw.1⟩, fun d hd => ?_⟩
        · exact Memory.write_from (by omega : a + 1 ≤ addr) hf d hd
        · rcases List.mem_cons.1 hd with rfl | hd
          · exact hm.2 _ (by simp)
          · exact hw.2 d hd

/-- A read after a write sees the byte written at that offset and every other byte as it was. -/
theorem Memory.read_write {m : List Host.Cell} (hm : Memory.wf m) (addr x : Nat) (b : Byte) :
    Memory.read (Memory.write m addr b) x = if x = addr then b else Memory.read m x := by
  induction m with
  | nil => exact Memory.read_cons fun _ hd => by simp at hd
  | cons c rest ih =>
    obtain ⟨a, v⟩ := c
    have hf := Memory.from_tail hm
    rw [Memory.write]
    split
    · next h =>
      refine Memory.read_cons fun d hd => ?_
      rcases List.mem_cons.1 hd with rfl | hd
      · exact h
      · have := hf d hd; omega
    · split
      · next h =>
        subst h
        rw [Memory.read_cons hf]
        split
        · rfl
        · next hx => rw [Memory.read, if_neg (fun e => hx e.symm)]
      · next h1 h2 =>
        rw [Memory.read, ih (Memory.wf_tail hm), Memory.read]
        split
        · next hx => rw [if_neg (by omega)]
        · rfl

/-- Setting consecutive bytes keeps the canonical form. -/
theorem Memory.load_wf (bytes : List Byte) : ∀ {m : List Host.Cell} (addr : Nat), Memory.wf m →
    Memory.wf (Memory.load m addr bytes) := by
  induction bytes with
  | nil => exact fun _ hm => hm
  | cons b rest ih => exact fun addr hm => ih (addr + 1) (Memory.write_wf hm addr b)

/-- A read after setting consecutive bytes. -/
theorem Memory.read_load (bytes : List Byte) : ∀ {m : List Host.Cell} (addr x : Nat), Memory.wf m →
    Memory.read (Memory.load m addr bytes) x =
      if addr ≤ x ∧ x < addr + bytes.length then bytes.getD (x - addr) Memory.blank else Memory.read m x := by
  induction bytes with
  | nil => intro m addr x _; rw [if_neg (by simp only [List.length_nil]; omega)]; rfl
  | cons b rest ih =>
    intro m addr x hm
    rw [Memory.load, ih (addr + 1) x (Memory.write_wf hm addr b), Memory.read_write hm]
    simp only [List.length_cons]
    by_cases h1 : x = addr
    · subst h1
      rw [if_neg (by omega), if_pos rfl, if_pos (by omega), Nat.sub_self]
      rfl
    · by_cases h2 : addr + 1 ≤ x ∧ x < addr + 1 + rest.length
      · rw [if_pos h2, if_pos (by omega), (by omega : x - addr = (x - (addr + 1)) + 1)]
        rfl
      · rw [if_neg h2, if_neg h1, if_neg (by omega)]

/-- A delivered buffer is in canonical form. -/
theorem State.deliver_wf (s : State) (buf : List Byte) : Memory.wf (s.deliver buf).mem :=
  Memory.load_wf buf 0 Memory.wf_nil

/-- A buffer presented at the ports is in canonical form. -/
theorem State.present_wf (s : State) {lenW : Nat} (inLen : BitVec lenW) (inData : Vector Byte consts.frameLen) :
    Memory.wf (s.present inLen inData).mem :=
  Memory.load_wf _ 0 Memory.wf_nil

/-- The machine after reset holds its buffer in canonical form. -/
theorem State.reset_mem_wf : Memory.wf State.reset.mem := Memory.wf_nil

end Sys2Proof.Machine
end

