-- ==== Sys2Proof/Laws/Ops.lean ====
section
/-! SUPPORT. For each shared operation, one lemma that says all it can do: when it goes on and with what, and when it
stops. -/

namespace Sys2Proof.Machine

/-! ### Reads -/

theorem State.memRead1_eq {s : State} {addr : Nat} (hs : s.inLen = consts.frameLen) (ha : addr < consts.frameLen) :
    s.memRead1 addr = some (s.byteAt addr) :=
  if_pos ⟨hs, ha⟩

theorem State.memRead2_eq {s : State} {addr : Nat} (hs : s.inLen = consts.frameLen) (ha : addr + 1 < consts.frameLen) :
    s.memRead2 addr = some (s.byteAt addr, s.byteAt (addr + 1)) :=
  if_pos ⟨hs, ha⟩

theorem State.memRead1_none {s : State} (addr : Nat) (hs : s.inLen ≠ consts.frameLen) : s.memRead1 addr = none :=
  if_neg fun h => hs h.1

theorem State.memRead2_none {s : State} (addr : Nat) (hs : s.inLen ≠ consts.frameLen) : s.memRead2 addr = none :=
  if_neg fun h => hs h.1

/-! ### `withByte`, `withPair`, `fxSlot` -/

theorem withByte_next {offset : Nat} {s : State} {k : Byte → State} (hs : s.inLen = consts.frameLen)
    (ho : offset < consts.frameLen) : withByte offset s k = .next (k (s.byteAt offset)) := by
  rw [withByte, State.memRead1_eq hs ho]

theorem withPair_next {offset : Nat} {s : State} {k : Byte → Byte → State} (hs : s.inLen = consts.frameLen)
    (ho : offset + 1 < consts.frameLen) :
    withPair offset s k = .next (k (s.byteAt offset) (s.byteAt (offset + 1))) := by
  rw [withPair, State.memRead2_eq hs ho]

theorem withByte_fault {offset : Nat} {s : State} {k : Byte → State} (hs : s.inLen ≠ consts.frameLen) :
    withByte offset s k = .fault (.readOutsideFrame offset) := by
  rw [withByte, State.memRead1_none offset hs]

theorem withPair_fault {offset : Nat} {s : State} {k : Byte → Byte → State} (hs : s.inLen ≠ consts.frameLen) :
    withPair offset s k = .fault (.readOutsideFrame offset) := by
  rw [withPair, State.memRead2_none offset hs]

/-- If a one-byte read goes on, a frame is there and it goes on with the byte. -/
theorem withByte_cases {offset : Nat} {s t : State} {k : Byte → State} (h : withByte offset s k = .next t) :
    s.inLen = consts.frameLen ∧ offset < consts.frameLen ∧ t = k (s.byteAt offset) := by
  unfold withByte State.memRead1 at h
  split at h
  · next hb =>
    split at hb
    · next hc => cases hb; cases h; exact ⟨hc.1, hc.2, rfl⟩
    · cases hb
  · cases h

/-- If a two-byte read goes on, a frame is there and it goes on with the pair. -/
theorem withPair_cases {offset : Nat} {s t : State} {k : Byte → Byte → State} (h : withPair offset s k = .next t) :
    s.inLen = consts.frameLen ∧ offset + 1 < consts.frameLen ∧ t = k (s.byteAt offset) (s.byteAt (offset + 1)) := by
  unfold withPair State.memRead2 at h
  split at h
  · next hb =>
    split at hb
    · next hc => cases hb; cases h; exact ⟨hc.1, hc.2, rfl⟩
    · cases hb
  · cases h

theorem fxSlot_next {offset : Nat} {s : State} {x : Int → Build} (hs : s.inLen = consts.frameLen)
    (ho : offset + 1 < consts.frameLen) : fxSlot offset s x = .next (s.putBuild (x (s.fxAt offset))) :=
  withPair_next hs ho

theorem fxSlot_fault {offset : Nat} {s : State} {x : Int → Build} (hs : s.inLen ≠ consts.frameLen) :
    fxSlot offset s x = .fault (.readOutsideFrame offset) :=
  withPair_fault hs

/-- If a two-byte slot goes on, a frame is there and the slot's field is `FXP` of its bytes. -/
theorem fxSlot_cases {offset : Nat} {s t : State} {x : Int → Build} (h : fxSlot offset s x = .next t) :
    s.inLen = consts.frameLen ∧ t = s.putBuild (x (s.fxAt offset)) := by
  obtain ⟨h1, _, h3⟩ := withPair_cases h
  exact ⟨h1, h3⟩

/-! ### The operands that a slot builds -/

theorem builtBy_none {α : Type} {slot : State → Answer} {field : Build → Option α} {s : State}
    (hs : s.inLen ≠ consts.frameLen) : builtBy slot field s = none :=
  if_neg hs

theorem builtBy_built {α : Type} {slot : State → Answer} {field : Build → Option α} {s : State} {v : α}
    (hs : s.inLen = consts.frameLen) (h : field s.build = some v) : builtBy slot field s = some v := by
  rw [builtBy, if_pos hs, h]

theorem builtBy_slot {α : Type} {slot : State → Answer} {field : Build → Option α} {s t : State}
    (hs : s.inLen = consts.frameLen) (h : field s.build = none) (ht : slot s = .next t) :
    builtBy slot field s = field t.build := by
  rw [builtBy, if_pos hs, h, ht]

/-- An operand is what the slot has built, or what it builds now; and a frame is there. -/
theorem builtBy_cases {α : Type} {slot : State → Answer} {field : Build → Option α} {s : State} {v : α}
    (h : builtBy slot field s = some v) :
    s.inLen = consts.frameLen ∧ (field s.build = some v ∨ ∃ t, slot s = .next t ∧ field t.build = some v) := by
  unfold builtBy at h
  split at h
  · next hs =>
    split at h
    · next hb => exact ⟨hs, .inl (hb.trans h)⟩
    · split at h
      · next t ht => exact ⟨hs, .inr ⟨t, ht, h⟩⟩
      · cases h
      · cases h
  · cases h

theorem fldPress_next {s : State} (hs : s.inLen = consts.frameLen) :
    fldPress s = .next (s.putBuild { s.build with pressRaw := some s.pressRaw }) :=
  fxSlot_next hs (by decide)

theorem fldSflags_next {s : State} (hs : s.inLen = consts.frameLen) :
    fldSflags s =
      .next (s.putBuild { s.build with secondaryFlags := some (flgSec (s.byteAt consts.offSflags)) }) :=
  withByte_next hs (by decide)

theorem fldDcode_next {s : State} (hs : s.inLen = consts.frameLen) :
    fldDcode s = .next (s.putBuild { s.build with displayCode := some (s.byteAt consts.offDcode) }) :=
  withByte_next hs (by decide)

end Sys2Proof.Machine
end

