-- ==== Sys2Proof/Laws/Exec.lean ====
section
/-! SUPPORT. What the meanings can do, said once: `exec_cases` for all of them, and the helpers' values on the operands
their meanings take. -/

namespace Sys2Proof.Machine

/-! ### The helpers' values -/

/-- The bound of a byte as a numeral, which `omega` does not find behind `byteBits`. -/
theorem Byte.toNat_lt (b : Byte) : b.toNat < 256 := b.isLt

theorem fxp_of_le {low high : Byte} (h : high.toNat ≤ consts.signThreshold) : fxp low high = fxpPos low high :=
  if_neg (by omega)

theorem fxp_of_lt {low high : Byte} (h : consts.signThreshold < high.toNat) : fxp low high = fxpNeg low high :=
  if_pos h

theorem label_of_unknown {code : Byte} (h : knownCode code = false) :
    labelIdOf code = .unknown ∧ lbl code = unknownText code := by
  simp only [knownCode, Bool.or_eq_false_iff, beq_eq_false_iff_ne, ne_eq] at h
  obtain ⟨⟨⟨⟨h1, h2⟩, h3⟩, h4⟩, h5⟩ := h
  simp [labelIdOf, lbl, h1, h2, h3, h4, h5]

/-- The bit test of 30_encoding.md R57 is core Lean's bit of a bit vector, for the eight bits of a byte. -/
theorem bitOf_eq_getLsbD (b : Byte) {i : Nat} (h : i < 8) : bitOf b i = b.getLsbD i := by
  interval_cases i <;> (revert b; decide)

/-! ### What `exec` can do -/

/-- `FRM.DEC` ends the transaction with the result of the buffer, whatever its length. -/
theorem exec_frmDec (s : State) : exec .frmDec s = .next (s.finish s.decoded) := by
  by_cases h : s.inLen = consts.frameLen
  · exact (if_pos h).trans (by rw [State.decoded, if_pos h])
  · exact (if_neg h).trans (by rw [State.decoded, if_neg h]; rfl)

/-- An operand that a slot builds is the value of the buffer, if all that is built is. -/
theorem builtBy_within {α : Type} {slot : State → Answer} {field : Build → Option α} {s : State} {v w : α}
    (h : builtBy slot field s = some v) (hb : field s.build = none ∨ field s.build = some w)
    (hn : ∀ t, slot s = .next t → field t.build = some w) : v = w := by
  obtain ⟨_, h | ⟨t, ht, h⟩⟩ := builtBy_cases h
  · rcases hb with hb | hb <;> rw [h] at hb <;> cases hb; rfl
  · rw [hn t ht] at h; cases h; rfl

/-- All that an operation which goes on can do: go on with nothing changed but the output; write the result being built,
from the buffer, when a frame is there; end the transaction with the result of the buffer; or give the value of a
helper. -/
inductive Change (s t : State) : Prop where
  | passed (ht : t = s.goOn)
  | built (b : Build) (ht : t = s.putBuild b) (hs : s.inLen = consts.frameLen)
      (hb : s.build.Within s.wires → b.Within s.wires)
  | finished (ht : t = s.finish s.decoded)
  | gave (o : Output) (ht : t = s.give o) (ho : o.Of s) (hr : ∀ r, o ≠ .transaction r)

/-- A helper's value, as a case of `Change`. -/
theorem Change.of_give {s t : State} {o : Output} (h : Host.Outcome.next (φ := Fault) (ρ := Refusal) (s.give o) = .next t)
    (ho : o.Of s) (hr : ∀ r, o ≠ .transaction r) : Change s t := by
  cases h; exact .gave o rfl ho hr

theorem Change.of_flag {s t : State} {name : Flag} {b : Byte} {i : Nat}
    (h : Host.Outcome.next (φ := Fault) (ρ := Refusal) (s.give (.flag name (bitOf b i))) = .next t)
    (hi : i < consts.nFlags) : Change s t :=
  .of_give h ⟨b, i, hi, rfl⟩ (fun _ e => nomatch e)

theorem Change.of_label {s t : State} {code : Byte}
    (h : Host.Outcome.next (φ := Fault) (ρ := Refusal) (s.give (.label ⟨labelIdOf code, lbl code⟩)) = .next t) :
    Change s t :=
  .of_give h ⟨code, rfl⟩ (fun _ e => nomatch e)

/-- The override takes the operands of the buffer, if all that is built is of the buffer. -/
theorem execPrsOvr_cases {s t : State} (h : execPrsOvr s = .next t) :
    s.inLen = consts.frameLen ∧ ∃ c, t = s.putBuild { s.build with chPressure := some c } ∧
      (s.build.Within s.wires → c = s.chPressure) := by
  unfold execPrsOvr at h
  split at h
  · next p f hp hf =>
    obtain ⟨hs, _⟩ := builtBy_cases hp
    cases h
    refine ⟨hs, _, rfl, fun w => ?_⟩
    rw [builtBy_within hp w.pressRaw fun t ht => by rw [fldPress_next hs] at ht; cases ht; rfl,
      builtBy_within hf w.secondaryFlags fun t ht => by rw [fldSflags_next hs] at ht; cases ht; rfl]
    rfl
  · cases h

/-- The label of the frame takes the code of the buffer, if all that is built is of the buffer. -/
theorem execFrmLabel_cases {s t : State} (h : execFrmLabel s = .next t) :
    s.inLen = consts.frameLen ∧ ∃ l, t = s.putBuild { s.build with statusLabel := some l } ∧
      (s.build.Within s.wires → l = lbl (s.byteAt consts.offDcode)) := by
  unfold execFrmLabel at h
  split at h
  · next c hc =>
    obtain ⟨hs, _⟩ := builtBy_cases hc
    cases h
    refine ⟨hs, _, rfl, fun w => ?_⟩
    rw [builtBy_within hc w.displayCode fun t ht => by rw [fldDcode_next hs] at ht; cases ht; rfl]
  · cases h

/-- The one inversion lemma of `exec`. -/
theorem exec_cases {i : Instr} {s t : State} (h : exec i s = .next t) : Change s t := by
  cases i with
  | lenChk =>
    simp only [exec, execLenChk] at h
    split at h
    · cases h; exact .passed rfl
    · next hs => cases h; exact .finished (by rw [State.decoded, if_neg hs]; rfl)
  | frmDec =>
    rw [exec_frmDec] at h
    cases h; exact .finished rfl
  | fldFlue =>
    obtain ⟨hs, ht⟩ := fxSlot_cases (show execFldFlue s = .next t from h)
    exact .built _ ht hs fun w => { w with flue := .inr rfl }
  | fldFlow =>
    obtain ⟨hs, ht⟩ := fxSlot_cases (show execFldFlow s = .next t from h)
    exact .built _ ht hs fun w => { w with flow := .inr rfl }
  | fldRet =>
    obtain ⟨hs, ht⟩ := fxSlot_cases (show execFldRet s = .next t from h)
    exact .built _ ht hs fun w => { w with return_ := .inr rfl }
  | fldDhw =>
    obtain ⟨hs, ht⟩ := fxSlot_cases (show execFldDhw s = .next t from h)
    exact .built _ ht hs fun w => { w with domesticHotWater := .inr rfl }
  | fldBoiler =>
    obtain ⟨hs, ht⟩ := fxSlot_cases (show execFldBoiler s = .next t from h)
    exact .built _ ht hs fun w => { w with boilerSensor := .inr rfl }
  | fldOutdoor =>
    obtain ⟨hs, ht⟩ := fxSlot_cases (show execFldOutdoor s = .next t from h)
    exact .built _ ht hs fun w => { w with outdoor := .inr rfl }
  | fldPress =>
    obtain ⟨hs, ht⟩ := fxSlot_cases (show fldPress s = .next t from h)
    exact .built _ ht hs fun w => { w with pressRaw := .inr rfl }
  | fldTset =>
    obtain ⟨hs, ht⟩ := fxSlot_cases (show execFldTset s = .next t from h)
    exact .built _ ht hs fun w => { w with temperatureSetpoint := .inr rfl }
  | fldFanset =>
    obtain ⟨hs, ht⟩ := fxSlot_cases (show execFldFanset s = .next t from h)
    exact .built _ ht hs fun w => { w with fanSpeedSetpoint := .inr rfl }
  | fldFanact =>
    obtain ⟨hs, ht⟩ := fxSlot_cases (show execFldFanact s = .next t from h)
    exact .built _ ht hs fun w => { w with fanSpeedActual := .inr rfl }
  | fldFanpwm =>
    obtain ⟨hs, ht⟩ := fxSlot_cases (show execFldFanpwm s = .next t from h)
    exact .built _ ht hs fun w => { w with fanPwm := .inr rfl }
  | fldIocur =>
    obtain ⟨hs, ht⟩ := fxSlot_cases (show execFldIocur s = .next t from h)
    exact .built _ ht hs fun w => { w with ioCurrent := .inr rfl }
  | fldDcode =>
    obtain ⟨hs, _, ht⟩ := withByte_cases (show fldDcode s = .next t from h)
    exact .built _ ht hs fun w => { w with displayCode := .inr rfl }
  | fldPflags =>
    obtain ⟨hs, _, ht⟩ := withByte_cases (show execFldPflags s = .next t from h)
    exact .built _ ht hs fun w => { w with primaryFlags := .inr rfl }
  | fldSflags =>
    obtain ⟨hs, _, ht⟩ := withByte_cases (show fldSflags s = .next t from h)
    exact .built _ ht hs fun w => { w with secondaryFlags := .inr rfl }
  | prsOvr =>
    obtain ⟨hs, c, ht, hc⟩ := execPrsOvr_cases (show execPrsOvr s = .next t from h)
    exact .built _ ht hs fun w => { w with chPressure := .inr (congrArg some (hc w)) }
  | frmLabel =>
    obtain ⟨hs, l, ht, hl⟩ := execFrmLabel_cases (show execFrmLabel s = .next t from h)
    exact .built _ ht hs fun w => { w with statusLabel := .inr (congrArg some (hl w)) }
  | fxpPos low high =>
    simp only [exec, execFxpPos] at h
    split at h
    · next hle => exact .of_give h ⟨low, high, (fxp_of_le hle).symm⟩ (fun _ e => nomatch e)
    · cases h
  | fxpNeg low high =>
    simp only [exec, execFxpNeg] at h
    split at h
    · next hlt => exact .of_give h ⟨low, high, (fxp_of_lt hlt).symm⟩ (fun _ e => nomatch e)
    · cases h
  | flgPri b => exact .of_give h ⟨b, rfl⟩ (fun _ e => nomatch e)
  | flgSec b => exact .of_give h ⟨b, rfl⟩ (fun _ e => nomatch e)
  | flgPriGeneralPowerSwitch _ => exact .of_flag h (by decide)
  | flgPriTapWaterSwitch _ => exact .of_flag h (by decide)
  | flgPriRoomThermostat _ => exact .of_flag h (by decide)
  | flgPriPump _ => exact .of_flag h (by decide)
  | flgPriThreeWayValve _ => exact .of_flag h (by decide)
  | flgPriAlarmStatus _ => exact .of_flag h (by decide)
  | flgPriChCascadeRelay _ => exact .of_flag h (by decide)
  | flgPriOpentherm _ => exact .of_flag h (by decide)
  | flgSecGasValve _ => exact .of_flag h (by decide)
  | flgSecSpark _ => exact .of_flag h (by decide)
  | flgSecIoSignal _ => exact .of_flag h (by decide)
  | flgSecChOpenthermDisabled _ => exact .of_flag h (by decide)
  | flgSecLowWaterPressure _ => exact .of_flag h (by decide)
  | flgSecPressureSensorPresent _ => exact .of_flag h (by decide)
  | flgSecBurnerBlock _ => exact .of_flag h (by decide)
  | flgSecGradientFlag _ => exact .of_flag h (by decide)
  | lblDhw => exact .of_label (code := consts.codeDhw) h
  | lblChActive => exact .of_label (code := consts.codeChActive) h
  | lblChIdle => exact .of_label (code := consts.codeChIdle) h
  | lblDhwPost => exact .of_label (code := consts.codeDhwPost) h
  | lblChPost => exact .of_label (code := consts.codeChPost) h
  | lblUnknown code =>
    simp only [exec, execLblUnknown] at h
    split at h
    · cases h
    · next hk =>
      obtain ⟨h1, h2⟩ := label_of_unknown (Bool.eq_false_iff.2 hk)
      exact .of_label (code := code) (by rw [h1, h2]; exact h)

end Sys2Proof.Machine
end

