-- ==== Sys2Proof/Laws/PerInstr.lean ====
section
/-! SUPPORT. A family of statements with one lemma for each constructor: an encoding carries as many operand bytes as
the operation's format says (30_encoding.md R50 to R54, R60). -/

namespace Sys2Proof.Laws.EncodedLength

/-- The request of an operation carries the operand bytes of its format and no other. -/
def Statement (i : Instr) : Prop := (encode i).operand.length = i.format.operandBytes

theorem lenChk : Statement .lenChk := rfl
theorem fldFlue : Statement .fldFlue := rfl
theorem fldFlow : Statement .fldFlow := rfl
theorem fldRet : Statement .fldRet := rfl
theorem fldDhw : Statement .fldDhw := rfl
theorem fldBoiler : Statement .fldBoiler := rfl
theorem fldOutdoor : Statement .fldOutdoor := rfl
theorem fldPress : Statement .fldPress := rfl
theorem fldTset : Statement .fldTset := rfl
theorem fldFanset : Statement .fldFanset := rfl
theorem fldFanact : Statement .fldFanact := rfl
theorem fldFanpwm : Statement .fldFanpwm := rfl
theorem fldIocur : Statement .fldIocur := rfl
theorem fldDcode : Statement .fldDcode := rfl
theorem fldPflags : Statement .fldPflags := rfl
theorem fldSflags : Statement .fldSflags := rfl
theorem prsOvr : Statement .prsOvr := rfl
theorem frmLabel : Statement .frmLabel := rfl
theorem frmDec : Statement .frmDec := rfl
theorem fxpPos (low high : Byte) : Statement (.fxpPos low high) := rfl
theorem fxpNeg (low high : Byte) : Statement (.fxpNeg low high) := rfl
theorem flgPri (b : Byte) : Statement (.flgPri b) := rfl
theorem flgPriGeneralPowerSwitch (b : Byte) : Statement (.flgPriGeneralPowerSwitch b) := rfl
theorem flgPriTapWaterSwitch (b : Byte) : Statement (.flgPriTapWaterSwitch b) := rfl
theorem flgPriRoomThermostat (b : Byte) : Statement (.flgPriRoomThermostat b) := rfl
theorem flgPriPump (b : Byte) : Statement (.flgPriPump b) := rfl
theorem flgPriThreeWayValve (b : Byte) : Statement (.flgPriThreeWayValve b) := rfl
theorem flgPriAlarmStatus (b : Byte) : Statement (.flgPriAlarmStatus b) := rfl
theorem flgPriChCascadeRelay (b : Byte) : Statement (.flgPriChCascadeRelay b) := rfl
theorem flgPriOpentherm (b : Byte) : Statement (.flgPriOpentherm b) := rfl
theorem flgSec (b : Byte) : Statement (.flgSec b) := rfl
theorem flgSecGasValve (b : Byte) : Statement (.flgSecGasValve b) := rfl
theorem flgSecSpark (b : Byte) : Statement (.flgSecSpark b) := rfl
theorem flgSecIoSignal (b : Byte) : Statement (.flgSecIoSignal b) := rfl
theorem flgSecChOpenthermDisabled (b : Byte) : Statement (.flgSecChOpenthermDisabled b) := rfl
theorem flgSecLowWaterPressure (b : Byte) : Statement (.flgSecLowWaterPressure b) := rfl
theorem flgSecPressureSensorPresent (b : Byte) : Statement (.flgSecPressureSensorPresent b) := rfl
theorem flgSecBurnerBlock (b : Byte) : Statement (.flgSecBurnerBlock b) := rfl
theorem flgSecGradientFlag (b : Byte) : Statement (.flgSecGradientFlag b) := rfl
theorem lblDhw : Statement .lblDhw := rfl
theorem lblChActive : Statement .lblChActive := rfl
theorem lblChIdle : Statement .lblChIdle := rfl
theorem lblDhwPost : Statement .lblDhwPost := rfl
theorem lblChPost : Statement .lblChPost := rfl
theorem lblUnknown (code : Byte) : Statement (.lblUnknown code) := rfl

end Sys2Proof.Laws.EncodedLength
end

