-- ==== Sys2Proof/Tests/Slice0.lean ====
section
/-! SUPPORT. Tests. The expected values are the spec's: the vectors F, G, H, L, O, E and the frames P1 to P7 of
95_test_vectors.md, and the examples of the rules. Then one witness for the hypotheses of each statement that has any. -/

namespace Sys2Proof.Tests

open Sys2Proof Sys2Proof.Machine

/-- The next state of an answer, if it is one. -/
def after (a : Answer) : Option State :=
  match a with
  | .next t => some t
  | .fault _ => none
  | .refused _ => none

/-- The record of the result after an answer, if it is `Ok`. -/
def record (a : Answer) : Option BoilerTelemetry :=
  match (after a).bind (·.result) with
  | some (.ok t) => some t
  | _ => none

/-- The error of the result after an answer, if it is one. -/
def errorOf (a : Answer) : Option DecodeError :=
  match (after a).bind (·.result) with
  | some (.err e) => some e
  | _ => none

/-- The label that a step gave back, if it gave one. -/
def labelOf (a : Answer) : Option Label :=
  match (after a).bind (·.output) with
  | some (.label l) => some l
  | _ => none

/-- Frame P1 of 95_test_vectors.md section 6. -/
def p1 : State := State.reset.deliver [
  0x00#8, 0x00#8, 0x00#8, 0x00#8, 0x00#8, 0x00#8, 0x00#8, 0x00#8,
  0x00#8, 0x00#8, 0x00#8, 0x00#8, 0x00#8, 0x00#8, 0x00#8, 0x00#8,
  0x00#8, 0x00#8, 0x00#8, 0x00#8, 0x00#8, 0x00#8, 0x00#8, 0x00#8,
  0x00#8, 0x00#8, 0x00#8, 0x00#8, 0x00#8, 0x20#8, 0x00#8, 0x00#8]

/-- Frame P2 of 95_test_vectors.md section 6. -/
def p2 : State := State.reset.deliver [
  0x00#8, 0x00#8, 0x00#8, 0x00#8, 0x00#8, 0x00#8, 0x00#8, 0x00#8,
  0x00#8, 0x00#8, 0x00#8, 0x00#8, 0x00#8, 0x00#8, 0x00#8, 0x00#8,
  0x00#8, 0x00#8, 0x00#8, 0x00#8, 0x00#8, 0x00#8, 0x00#8, 0x00#8,
  0x66#8, 0x00#8, 0x00#8, 0x00#8, 0x00#8, 0x20#8, 0x00#8, 0x00#8]

/-- Frame P3 of 95_test_vectors.md section 6. -/
def p3 : State := State.reset.deliver [
  0x00#8, 0x00#8, 0x00#8, 0x00#8, 0x00#8, 0x00#8, 0x00#8, 0x00#8,
  0x00#8, 0x00#8, 0x00#8, 0x00#8, 0x96#8, 0x00#8, 0x00#8, 0x00#8,
  0x00#8, 0x00#8, 0x00#8, 0x00#8, 0x00#8, 0x00#8, 0x00#8, 0x00#8,
  0x00#8, 0x00#8, 0x00#8, 0x00#8, 0x00#8, 0x00#8, 0x00#8, 0x00#8]

/-- Frame P4 of 95_test_vectors.md section 6. -/
def p4 : State := State.reset.deliver [
  0x10#8, 0x27#8, 0xD0#8, 0x07#8, 0xFF#8, 0x00#8, 0x00#8, 0x01#8,
  0x34#8, 0x12#8, 0x9C#8, 0xFF#8, 0x96#8, 0x00#8, 0x00#8, 0x7F#8,
  0xFF#8, 0x7F#8, 0x00#8, 0x80#8, 0x64#8, 0x00#8, 0xFF#8, 0xFF#8,
  0x7E#8, 0xAA#8, 0x55#8, 0x09#8, 0xFF#8, 0x2A#8, 0x01#8, 0x80#8]

/-- Frame P5 of 95_test_vectors.md section 6. -/
def p5 : State := State.reset.deliver [
  0x10#8, 0x27#8, 0xD0#8, 0x07#8, 0xFF#8, 0x00#8, 0x00#8, 0x01#8,
  0x34#8, 0x12#8, 0x9C#8, 0xFF#8, 0x96#8, 0x00#8, 0x00#8, 0x7F#8,
  0xFF#8, 0x7F#8, 0x00#8, 0x80#8, 0x64#8, 0x00#8, 0xFF#8, 0xFF#8,
  0x7E#8, 0x00#8, 0x00#8, 0x09#8, 0x00#8, 0x0A#8, 0x00#8, 0x00#8]

/-- Frame P6 of 95_test_vectors.md section 6. -/
def p6 : State := State.reset.deliver [
  0xFF#8, 0xFF#8, 0xFF#8, 0xFF#8, 0xFF#8, 0xFF#8, 0xFF#8, 0xFF#8,
  0xFF#8, 0xFF#8, 0xFF#8, 0xFF#8, 0xFF#8, 0xFF#8, 0xFF#8, 0xFF#8,
  0xFF#8, 0xFF#8, 0xFF#8, 0xFF#8, 0xFF#8, 0xFF#8, 0xFF#8, 0xFF#8,
  0xFF#8, 0xFF#8, 0xFF#8, 0xFF#8, 0xFF#8, 0xFF#8, 0xFF#8, 0xFF#8]

/-- Frame P7 of 95_test_vectors.md section 6. -/
def p7 : State := State.reset.deliver [
  0x10#8, 0x27#8, 0xD0#8, 0x07#8, 0xFF#8, 0x00#8, 0x00#8, 0x01#8,
  0x34#8, 0x12#8, 0x9C#8, 0xFF#8, 0x96#8, 0x00#8, 0x00#8, 0x7F#8,
  0xFF#8, 0x7F#8, 0x00#8, 0x80#8, 0x64#8, 0x00#8, 0xFF#8, 0xFF#8,
  0x7E#8, 0xAA#8, 0x55#8, 0x09#8, 0xFF#8, 0x2A#8, 0x01#8]

/-- Frame P4 with its reserved bytes zeroed. -/
def p4Zeroed : State := State.reset.deliver [
  0x10#8, 0x27#8, 0xD0#8, 0x07#8, 0xFF#8, 0x00#8, 0x00#8, 0x01#8,
  0x34#8, 0x12#8, 0x9C#8, 0xFF#8, 0x96#8, 0x00#8, 0x00#8, 0x7F#8,
  0xFF#8, 0x7F#8, 0x00#8, 0x80#8, 0x64#8, 0x00#8, 0xFF#8, 0xFF#8,
  0x7E#8, 0x00#8, 0x00#8, 0x09#8, 0x00#8, 0x2A#8, 0x00#8, 0x00#8]

/-! ### Well-formedness: an ill-formed term for each check -/

theorem test_fxpPos_high_128_is_ill_formed : (Instr.fxpPos 0#8 128#8).wf = false := by decide
theorem test_fxpNeg_high_127_is_ill_formed : (Instr.fxpNeg 0#8 127#8).wf = false := by decide
theorem test_lblUnknown_of_a_table_code_is_ill_formed : (Instr.lblUnknown 51#8).wf = false := by decide
theorem test_boundary_operands_are_well_formed :
    (Instr.fxpPos 255#8 127#8).wf = true ∧ (Instr.fxpNeg 0#8 128#8).wf = true ∧
    (Instr.lblUnknown 52#8).wf = true := by decide

/-! ### Decoding, from the encodings of 30_encoding.md R51 to R54 and R60 -/

theorem test_decode_lenChk : decode ⟨.lengthCheck, []⟩ = .ok .lenChk := rfl
theorem test_decode_fldFlue : decode ⟨.slot 0, []⟩ = .ok .fldFlue := rfl
theorem test_decode_fldFlow : decode ⟨.slot 2, []⟩ = .ok .fldFlow := rfl
theorem test_decode_fldRet : decode ⟨.slot 4, []⟩ = .ok .fldRet := rfl
theorem test_decode_fldDhw : decode ⟨.slot 6, []⟩ = .ok .fldDhw := rfl
theorem test_decode_fldBoiler : decode ⟨.slot 8, []⟩ = .ok .fldBoiler := rfl
theorem test_decode_fldOutdoor : decode ⟨.slot 10, []⟩ = .ok .fldOutdoor := rfl
theorem test_decode_fldPress : decode ⟨.slot 12, []⟩ = .ok .fldPress := rfl
theorem test_decode_fldTset : decode ⟨.slot 14, []⟩ = .ok .fldTset := rfl
theorem test_decode_fldFanset : decode ⟨.slot 16, []⟩ = .ok .fldFanset := rfl
theorem test_decode_fldFanact : decode ⟨.slot 18, []⟩ = .ok .fldFanact := rfl
theorem test_decode_fldFanpwm : decode ⟨.slot 20, []⟩ = .ok .fldFanpwm := rfl
theorem test_decode_fldIocur : decode ⟨.slot 22, []⟩ = .ok .fldIocur := rfl
theorem test_decode_fldDcode : decode ⟨.slot 24, []⟩ = .ok .fldDcode := rfl
theorem test_decode_fldPflags : decode ⟨.slot 27, []⟩ = .ok .fldPflags := rfl
theorem test_decode_fldSflags : decode ⟨.slot 29, []⟩ = .ok .fldSflags := rfl
theorem test_decode_prsOvr : decode ⟨.override, []⟩ = .ok .prsOvr := rfl
theorem test_decode_frmLabel : decode ⟨.frameLabel, []⟩ = .ok .frmLabel := rfl
theorem test_decode_frmDec : decode ⟨.frame, []⟩ = .ok .frmDec := rfl
theorem test_decode_fxpPos : decode ⟨.fx16, [0b00010000#8, 0b00100111#8]⟩ = .ok (.fxpPos 16#8 39#8) := rfl
theorem test_decode_fxpNeg : decode ⟨.fx16, [0b00110010#8, 0b11001000#8]⟩ = .ok (.fxpNeg 50#8 200#8) := rfl
theorem test_decode_flgPri : decode ⟨.flag8 .primary, [0b00001001#8]⟩ = .ok (.flgPri 0x09#8) := rfl
theorem test_decode_flgPriGeneralPowerSwitch : decode ⟨.flagBit .primary 0, [0b00000001#8]⟩ =
    .ok (.flgPriGeneralPowerSwitch 0x01#8) := rfl
theorem test_decode_flgPriTapWaterSwitch : decode ⟨.flagBit .primary 1, [0b00000010#8]⟩ =
    .ok (.flgPriTapWaterSwitch 0x02#8) := rfl
theorem test_decode_flgPriRoomThermostat : decode ⟨.flagBit .primary 2, [0b00000100#8]⟩ =
    .ok (.flgPriRoomThermostat 0x04#8) := rfl
theorem test_decode_flgPriPump : decode ⟨.flagBit .primary 3, [0b00001000#8]⟩ =
    .ok (.flgPriPump 0x08#8) := rfl
theorem test_decode_flgPriThreeWayValve : decode ⟨.flagBit .primary 4, [0b00010000#8]⟩ =
    .ok (.flgPriThreeWayValve 0x10#8) := rfl
theorem test_decode_flgPriAlarmStatus : decode ⟨.flagBit .primary 5, [0b00100000#8]⟩ =
    .ok (.flgPriAlarmStatus 0x20#8) := rfl
theorem test_decode_flgPriChCascadeRelay : decode ⟨.flagBit .primary 6, [0b01000000#8]⟩ =
    .ok (.flgPriChCascadeRelay 0x40#8) := rfl
theorem test_decode_flgPriOpentherm : decode ⟨.flagBit .primary 7, [0b10000000#8]⟩ =
    .ok (.flgPriOpentherm 0x80#8) := rfl
theorem test_decode_flgSec : decode ⟨.flag8 .secondary, [0b00100000#8]⟩ = .ok (.flgSec 0x20#8) := rfl
theorem test_decode_flgSecGasValve : decode ⟨.flagBit .secondary 0, [0b00000001#8]⟩ =
    .ok (.flgSecGasValve 0x01#8) := rfl
theorem test_decode_flgSecSpark : decode ⟨.flagBit .secondary 1, [0b00000010#8]⟩ =
    .ok (.flgSecSpark 0x02#8) := rfl
theorem test_decode_flgSecIoSignal : decode ⟨.flagBit .secondary 2, [0b00000100#8]⟩ =
    .ok (.flgSecIoSignal 0x04#8) := rfl
theorem test_decode_flgSecChOpenthermDisabled : decode ⟨.flagBit .secondary 3, [0b00001000#8]⟩ =
    .ok (.flgSecChOpenthermDisabled 0x08#8) := rfl
theorem test_decode_flgSecLowWaterPressure : decode ⟨.flagBit .secondary 4, [0b00010000#8]⟩ =
    .ok (.flgSecLowWaterPressure 0x10#8) := rfl
theorem test_decode_flgSecPressureSensorPresent : decode ⟨.flagBit .secondary 5, [0b00100000#8]⟩ =
    .ok (.flgSecPressureSensorPresent 0x20#8) := rfl
theorem test_decode_flgSecBurnerBlock : decode ⟨.flagBit .secondary 6, [0b01000000#8]⟩ =
    .ok (.flgSecBurnerBlock 0x40#8) := rfl
theorem test_decode_flgSecGradientFlag : decode ⟨.flagBit .secondary 7, [0b10000000#8]⟩ =
    .ok (.flgSecGradientFlag 0x80#8) := rfl
theorem test_decode_lblDhw : decode ⟨.code8, [0b00110011#8]⟩ = .ok .lblDhw := rfl
theorem test_decode_lblChActive : decode ⟨.code8, [0b01100110#8]⟩ = .ok .lblChActive := rfl
theorem test_decode_lblChIdle : decode ⟨.code8, [0b01111110#8]⟩ = .ok .lblChIdle := rfl
theorem test_decode_lblDhwPost : decode ⟨.code8, [0b11001100#8]⟩ = .ok .lblDhwPost := rfl
theorem test_decode_lblChPost : decode ⟨.code8, [0b11100111#8]⟩ = .ok .lblChPost := rfl
theorem test_decode_lblUnknown : decode ⟨.code8, [0b00000111#8]⟩ = .ok (.lblUnknown 7#8) := rfl

/-- The reserved offsets of 20_memory.md R43 have no slot. -/
theorem test_decode_reserved_offsets :
    decode ⟨.slot 25, []⟩ = .error (.noSlotAt 25) ∧ decode ⟨.slot 31, []⟩ = .error (.noSlotAt 31) := ⟨rfl, rfl⟩

/-- Bare words of the table: 16 bits are FX16, a table code is its row (30_encoding.md R60). -/
theorem test_table_words :
    decodeTableWord 16 0x8000 = some (.fxpNeg 0#8 128#8) ∧ decodeTableWord 16 0x2710 = some (.fxpPos 16#8 39#8) ∧
    decodeTableWord 8 0xCC = some .lblDhwPost ∧ decodeTableWord 8 0x08 = some (.flgPriPump 8#8) ∧
    decodeTableWord 8 0 = some (.lblUnknown 0#8) := ⟨rfl, rfl, rfl, rfl, rfl⟩
theorem test_frame_map_has_twelve_fixed_point_slots :
    (slotTable.filter (fun row => row.1 < consts.offDcode)).length = consts.nFxFields := by decide

/-- A bare word is the very next operation after reset. -/
theorem test_withFetchWord_runs_it :
    (after (step (State.reset.withFetchWord 16 0x2710))).bind (·.output) = some (.hundredths 10351) := by decide

/-! ### The fixed-point decoder: vectors F5, F11, F16, F19, F21, F27 -/

theorem test_fxp_vectors :
    fxp 0#8 1#8 = 265 ∧ fxp 255#8 127#8 = 33910 ∧ fxp 255#8 128#8 = -3277055 ∧ fxp 255#8 255#8 = -25855 := by decide
theorem test_fxpPos_f11 :
    (after (exec (.fxpPos 0x10#8 0x27#8) p1)).bind (·.output) = some (.hundredths 10351) := by decide
theorem test_fxpNeg_f21 :
    (after (exec (.fxpNeg 0x32#8 0xC8#8) p1)).bind (·.output) = some (.hundredths (-1433650)) := by decide

/-! ### The flags: vectors G12, H14 and the one-bit rows G3 to G10, H3 to H10 -/

theorem test_flgPri_g12 : (after (exec (.flgPri 0xA5#8) p1)).bind (·.output) =
    some (.primaryFlags ⟨true, false, true, false, false, true, false, true⟩) := by decide
theorem test_flgPriGeneralPowerSwitch :
    (after (exec (.flgPriGeneralPowerSwitch 0x01#8) p1)).bind (·.output) =
    some (.flag .generalPowerSwitch true) ∧
    (after (exec (.flgPriGeneralPowerSwitch 0xfe#8) p1)).bind (·.output) =
      some (.flag .generalPowerSwitch false) := by decide
theorem test_flgPriTapWaterSwitch : (after (exec (.flgPriTapWaterSwitch 0x02#8) p1)).bind (·.output) =
    some (.flag .tapWaterSwitch true) ∧
    (after (exec (.flgPriTapWaterSwitch 0xfd#8) p1)).bind (·.output) = some (.flag .tapWaterSwitch false) := by decide
theorem test_flgPriRoomThermostat : (after (exec (.flgPriRoomThermostat 0x04#8) p1)).bind (·.output) =
    some (.flag .roomThermostat true) ∧
    (after (exec (.flgPriRoomThermostat 0xfb#8) p1)).bind (·.output) = some (.flag .roomThermostat false) := by decide
theorem test_flgPriPump : (after (exec (.flgPriPump 0x08#8) p1)).bind (·.output) =
    some (.flag .pump true) ∧
    (after (exec (.flgPriPump 0xf7#8) p1)).bind (·.output) = some (.flag .pump false) := by decide
theorem test_flgPriThreeWayValve : (after (exec (.flgPriThreeWayValve 0x10#8) p1)).bind (·.output) =
    some (.flag .threeWayValve true) ∧
    (after (exec (.flgPriThreeWayValve 0xef#8) p1)).bind (·.output) = some (.flag .threeWayValve false) := by decide
theorem test_flgPriAlarmStatus : (after (exec (.flgPriAlarmStatus 0x20#8) p1)).bind (·.output) =
    some (.flag .alarmStatus true) ∧
    (after (exec (.flgPriAlarmStatus 0xdf#8) p1)).bind (·.output) = some (.flag .alarmStatus false) := by decide
theorem test_flgPriChCascadeRelay : (after (exec (.flgPriChCascadeRelay 0x40#8) p1)).bind (·.output) =
    some (.flag .chCascadeRelay true) ∧
    (after (exec (.flgPriChCascadeRelay 0xbf#8) p1)).bind (·.output) = some (.flag .chCascadeRelay false) := by decide
theorem test_flgPriOpentherm : (after (exec (.flgPriOpentherm 0x80#8) p1)).bind (·.output) =
    some (.flag .opentherm true) ∧
    (after (exec (.flgPriOpentherm 0x7f#8) p1)).bind (·.output) = some (.flag .opentherm false) := by decide
theorem test_flgSec_h14 : (after (exec (.flgSec 0xA5#8) p1)).bind (·.output) =
    some (.secondaryFlags ⟨true, false, true, false, false, true, false, true⟩) := by decide
theorem test_flgSecGasValve : (after (exec (.flgSecGasValve 0x01#8) p1)).bind (·.output) =
    some (.flag .gasValve true) ∧
    (after (exec (.flgSecGasValve 0xfe#8) p1)).bind (·.output) = some (.flag .gasValve false) := by decide
theorem test_flgSecSpark : (after (exec (.flgSecSpark 0x02#8) p1)).bind (·.output) =
    some (.flag .spark true) ∧
    (after (exec (.flgSecSpark 0xfd#8) p1)).bind (·.output) = some (.flag .spark false) := by decide
theorem test_flgSecIoSignal : (after (exec (.flgSecIoSignal 0x04#8) p1)).bind (·.output) =
    some (.flag .ioSignal true) ∧
    (after (exec (.flgSecIoSignal 0xfb#8) p1)).bind (·.output) = some (.flag .ioSignal false) := by decide
theorem test_flgSecChOpenthermDisabled :
    (after (exec (.flgSecChOpenthermDisabled 0x08#8) p1)).bind (·.output) =
    some (.flag .chOpenthermDisabled true) ∧
    (after (exec (.flgSecChOpenthermDisabled 0xf7#8) p1)).bind (·.output) =
      some (.flag .chOpenthermDisabled false) := by decide
theorem test_flgSecLowWaterPressure :
    (after (exec (.flgSecLowWaterPressure 0x10#8) p1)).bind (·.output) =
    some (.flag .lowWaterPressure true) ∧
    (after (exec (.flgSecLowWaterPressure 0xef#8) p1)).bind (·.output) =
      some (.flag .lowWaterPressure false) := by decide
theorem test_flgSecPressureSensorPresent :
    (after (exec (.flgSecPressureSensorPresent 0x20#8) p1)).bind (·.output) =
    some (.flag .pressureSensorPresent true) ∧
    (after (exec (.flgSecPressureSensorPresent 0xdf#8) p1)).bind (·.output) =
      some (.flag .pressureSensorPresent false) := by decide
theorem test_flgSecBurnerBlock : (after (exec (.flgSecBurnerBlock 0x40#8) p1)).bind (·.output) =
    some (.flag .burnerBlock true) ∧
    (after (exec (.flgSecBurnerBlock 0xbf#8) p1)).bind (·.output) = some (.flag .burnerBlock false) := by decide
theorem test_flgSecGradientFlag : (after (exec (.flgSecGradientFlag 0x80#8) p1)).bind (·.output) =
    some (.flag .gradientFlag true) ∧
    (after (exec (.flgSecGradientFlag 0x7f#8) p1)).bind (·.output) = some (.flag .gradientFlag false) := by decide

/-! ### The labels: vectors L1 to L5, L9 and L24 -/

theorem test_lblDhw : (labelOf (exec .lblDhw p1)).map (fun l => (l.text, l.id.toPort)) =
    some ("Domestic hot water".toList, 1#3) := by decide
theorem test_lblChActive : (labelOf (exec .lblChActive p1)).map (fun l => (l.text, l.id.toPort)) =
    some ("Central heating active".toList, 2#3) := by decide
theorem test_lblChIdle : (labelOf (exec .lblChIdle p1)).map (fun l => (l.text, l.id.toPort)) =
    some ("Central heating idle".toList, 3#3) := by decide
theorem test_lblDhwPost : (labelOf (exec .lblDhwPost p1)).map (fun l => (l.text, l.id.toPort)) =
    some ("Domestic hot water post-run".toList, 4#3) := by decide
theorem test_lblChPost : (labelOf (exec .lblChPost p1)).map (fun l => (l.text, l.id.toPort)) =
    some ("Central heating post-run".toList, 5#3) := by decide
theorem test_lblUnknown_l24 : (labelOf (exec (.lblUnknown 255#8) p1)).map (fun l => (l.text, l.id.toPort)) =
    some ("Unknown (255)".toList, 0#3) := by decide
theorem test_label_bytes_l9 : Text.bytes (lbl 10#8) =
    [0x55#8, 0x6E#8, 0x6B#8, 0x6E#8, 0x6F#8, 0x77#8, 0x6E#8, 0x20#8, 0x28#8, 0x31#8, 0x30#8, 0x29#8] := by decide

/-! ### The slots, on frame P4 -/

theorem test_fldFlue_p4 : (after (exec .fldFlue p4)).bind (·.build.flue) = some 10351 := by decide
theorem test_fldFlow_p4 : (after (exec .fldFlow p4)).bind (·.build.flow) = some 2063 := by decide
theorem test_fldRet_p4 : (after (exec .fldRet p4)).bind (·.build.return_) = some 255 := by decide
theorem test_fldDhw_p4 : (after (exec .fldDhw p4)).bind (·.build.domesticHotWater) = some 265 := by decide
theorem test_fldBoiler_p4 : (after (exec .fldBoiler p4)).bind (·.build.boilerSensor) = some 4822 := by decide
theorem test_fldOutdoor_p4 : (after (exec .fldOutdoor p4)).bind (·.build.outdoor) = some (-25756) := by decide
theorem test_fldPress_p4 : (after (exec .fldPress p4)).bind (·.build.pressRaw) = some 150 := by decide
theorem test_fldTset_p4 : (after (exec .fldTset p4)).bind (·.build.temperatureSetpoint) = some 33655 := by decide
theorem test_fldFanset_p4 : (after (exec .fldFanset p4)).bind (·.build.fanSpeedSetpoint) = some 33910 := by decide
theorem test_fldFanact_p4 : (after (exec .fldFanact p4)).bind (·.build.fanSpeedActual) = some (-3276800) := by decide
theorem test_fldFanpwm_p4 : (after (exec .fldFanpwm p4)).bind (·.build.fanPwm) = some 100 := by decide
theorem test_fldIocur_p4 : (after (exec .fldIocur p4)).bind (·.build.ioCurrent) = some (-25855) := by decide
theorem test_fldDcode_p4 : (after (exec .fldDcode p4)).bind (·.build.displayCode) = some 126#8 := by decide
theorem test_fldPflags_p4 : (after (exec .fldPflags p4)).bind (·.build.primaryFlags) =
    some ⟨true, false, false, true, false, false, false, false⟩ := by decide
theorem test_fldSflags_p4 : (after (exec .fldSflags p4)).bind (·.build.secondaryFlags) =
    some ⟨false, true, false, true, false, true, false, false⟩ := by decide
theorem test_fldFlue_without_a_frame : after (exec .fldFlue p7) = none := by decide

/-! ### The override, the label, the length check and the whole transaction: vectors O3, O4, E4 and P1 to P7 -/

theorem test_prsOvr_p4 : (after (exec .prsOvr p4)).bind (·.build.chPressure) = some (.measured 150) := by decide
theorem test_prsOvr_p5 : (after (exec .prsOvr p5)).bind (·.build.chPressure) = some .sensorAbsent := by decide

/-- The override takes what its slots have built (43_frame_decode.md R158, 20_memory.md R32). -/
theorem test_prsOvr_takes_what_is_built :
    (after (exec .prsOvr (p5.putBuild { Build.empty with
      pressRaw := some 7, secondaryFlags := some (flgSec 0x20#8) }))).bind (·.build.chPressure) =
      some (.measured 7) := by decide
theorem test_prsOvr_without_a_frame : after (exec .prsOvr p7) = none := by decide
theorem test_frmLabel_p4 :
    (after (exec .frmLabel p4)).bind (·.build.statusLabel) = some "Central heating idle".toList := by decide
theorem test_lenChk_p4 : after (exec .lenChk p4) = some p4.goOn := by decide
theorem test_lenChk_p7 : errorOf (exec .lenChk p7) = some (.unexpectedLength 32 31) := by decide
theorem test_frmDec_p1 :
    (record (step p1)).map (fun t => (t.chPressure, t.statusLabel, t.secondaryFlags.pressureSensorPresent)) =
    some (.measured 0, "Unknown (0)".toList, true) := by decide
theorem test_frmDec_p2 : (record (step p2)).map (·.statusLabel) = some "Central heating active".toList := by decide
theorem test_frmDec_p3 :
    (record (step p3)).map (fun t => (t.chPressure, t.chPressure.number)) = some (.sensorAbsent, -3500) := by decide
theorem test_frmDec_p4 : record (step p4) = some {
      flue := 10351, flow := 2063, return_ := 255, domesticHotWater := 265, boilerSensor := 4822, outdoor := -25756,
      chPressure := .measured 150, temperatureSetpoint := 33655, fanSpeedSetpoint := 33910,
      fanSpeedActual := -3276800, fanPwm := 100, ioCurrent := -25855, displayCode := 126#8,
      primaryFlags := ⟨true, false, false, true, false, false, false, false⟩,
      secondaryFlags := ⟨false, true, false, true, false, true, false, false⟩,
      statusLabel := "Central heating idle".toList } := by decide
theorem test_frmDec_p5_differs_from_p4_in_the_sensor_only :
    record (step p5) = (record (step p4)).map (fun t => { t with
    chPressure := .sensorAbsent, secondaryFlags := { t.secondaryFlags with pressureSensorPresent := false } }) :=
      by decide
theorem test_frmDec_p6 :
    (record (step p6)).map (fun t => (t.ioCurrent, t.statusLabel)) =
      some (-25855, "Unknown (255)".toList) := by decide
theorem test_frmDec_p7 : errorOf (step p7) = some (.unexpectedLength 32 31) := by decide

/-! ### The ports: the port column of P4, and E4 -/

theorem test_ports_p4 : (p4.outPorts 16).toOption.map (fun p => (p.flue, p.outdoor, p.fanSpeedActual, p.labelId)) =
    some (0x00286F#23, 0x7F9B64#23, 0x4E0000#23, 3#3) := rfl
theorem test_ports_p3 :
    (p3.outPorts 16).toOption.map (fun p => (p.chPressure, p.chPressureAbsent)) = some (0x7FF254#23, 1#1) := rfl
theorem test_ports_p7 :
    (p7.outPorts 16).toOption.map (fun p => (p.outErr, p.errExpected, p.errActual)) = some (1#1, 32#16, 31#16) := rfl
theorem test_length_31_does_not_fit_five_bits : (p7.outPorts 5).toOption.map (·.outErr) = none := rfl

/-- Two buffers presented with no completing step between them are two draws (10_state.md R23, log 12). -/
theorem test_delivery_draws_afresh :
    (p4.deliver []).draws ≠ p4.draws ∧ (p4.present 32#16 (Vector.replicate 32 0)).draws ≠ p4.draws := by decide

/-! ### Witnesses for the hypotheses of the statements -/

theorem witness_DecodeOfEncodeIsTheOperation :
    (Instr.fxpPos 255#8 127#8).wf = true ∧ (Instr.fxpNeg 0#8 128#8).wf = true ∧ (Instr.lblUnknown 50#8).wf =
      true := by decide
theorem witness_DecodedRequestIsItsEncoding :
    decode ⟨.fx16, [0#8, 128#8]⟩ = .ok (.fxpNeg 0#8 128#8) := rfl
theorem witness_SlotsStartExactlyAtTheMappedOffsets :
    28 ∉ [0, 2, 4, 6, 8, 10, 12, 14, 16, 18, 20, 22, 24, 27, 29] := by decide
theorem witness_StepRunsTheDecodedOperation :
    decode State.reset.request = .ok .frmDec ∧
      decode (State.reset.select ⟨.slot 25, []⟩).request = .error (.noSlotAt 25) := ⟨rfl, rfl⟩
theorem witness_SelectedOperationRuns :
    (Instr.lblUnknown 232#8).wf = true := by decide
theorem witness_FxpPosIsHighTimes265PlusLow :
    (127#8).toNat ≤ 127 := by decide
theorem witness_FxpNegIsWholeUnitsMinusLow :
    127 < (128#8).toNat := by decide
theorem witness_FxpRangeAndPortWidth :
    (127#8).toNat ≤ 127 ∧ 127 < (128#8).toNat := by decide
theorem witness_FxpIsInjective :
    fxp 1#8 255#8 = fxp 1#8 255#8 := rfl
theorem witness_FxpGapsAndSentinel :
    (0 ≤ (126 : Int) ∧ (126 : Int) ≤ 126 ∧ (126 : Int) * 265 + 256 ≤ 33654 ∧ 33654 ≤ (126 : Int) * 265 + 264) ∧
      (-25599 ≤ (-25599 : Int) ∧ (-25599 : Int) ≤ -1) := by decide
theorem witness_FxpMonotoneOnlyWithinABranch :
    ((126#8).toNat ≤ 127 ∧ (127#8).toNat ≤ 127 ∧
        (126#8).toNat * 256 + (255#8).toNat < (127#8).toNat * 256 + (0#8).toNat) ∧
      (127 < (128#8).toNat ∧ (128#8).toNat < (129#8).toNat) ∧ (127 < (255#8).toNat ∧ (254#8).toNat < (255#8).toNat) ∧
      (127#8).toNat ≤ 127 ∧ 127 < (128#8).toNat := by decide
theorem witness_TwoByteSlotsGiveFxpOfTheirBytes :
    p4.inLen = 32 := by decide
theorem witness_DisplayCodeSlotCopiesByte24 :
    p4.inLen = 32 := by decide
theorem witness_FlagSlotsUnpackBytes27And29 :
    p4.inLen = 32 := by decide
theorem witness_OperationsOneByOneBuildTheSameRecord :
    p4.inLen = 32 := by decide
theorem witness_FrameReadsStopWithoutAFrame :
    p7.inLen ≠ 32 := by decide

/-- Frame P4 with the flue temperature built (95_test_vectors.md P4). -/
def p4Flue : State := p4.putBuild { Build.empty with flue := some 10351 }


theorem empty_within (w : Build) : Build.empty.Within w := by constructor <;> exact .inl rfl

theorem witness_PressureOverrideChoosesByBitFive :
    (p4.inLen = 32 ∧ (p4.byteAt 29).getLsbD 5 = true ∧ p4.build.Within p4.wires) ∧
      (p5.inLen = 32 ∧ (p5.byteAt 29).getLsbD 5 = false ∧ p5.build.Within p5.wires) := 
  ⟨⟨rfl, rfl, empty_within _⟩, ⟨rfl, rfl, empty_within _⟩⟩
theorem witness_FrameLabelIsTheLabelOfByte24 :
    p4.inLen = 32 ∧ p4.build.Within p4.wires := ⟨rfl, empty_within _⟩
theorem witness_LengthCheckPassesOrEndsInTheError :
    p4.inLen = 32 ∧ p7.inLen ≠ 32 := by decide
theorem witness_UnexpectedLengthExactlyForOtherLengths :
    p7.inLen ≠ 32 ∧ p4.inLen = 32 ∧ (Instr.lenChk = .lenChk ∨ Instr.lenChk = .frmDec) := by decide
theorem witness_FrameDecodeBuildsTheRecord :
    p6.inLen = 32 ∧ p7.inLen ≠ 32 := by decide
theorem witness_OrderOfTheFieldsCannotBeObserved :
    p4.inLen = 32 ∧ p4.build.Within p4.wires ∧ frameOps.reverse.Perm frameOps :=
      ⟨rfl, empty_within _, List.reverse_perm _⟩
theorem witness_EveryBufferHasAResult :
    p4.request = ⟨.frame, []⟩ ∧ p7.request = ⟨.frame, []⟩ := by decide
theorem witness_RepeatedTransactionGivesTheSameResult :
    p7.request = ⟨.frame, []⟩ ∧ ∃ t, step p7 = .next t := ⟨rfl, _, rfl⟩
theorem witness_ReservedBytesChangeNothing :
    p4.inLen = 32 ∧ p4Zeroed.inLen = 32 ∧ p4.byteAt 25 ≠ p4Zeroed.byteAt 25 ∧
      ∀ a, a < 32 → a ∉ [25, 26, 28, 30, 31] → p4.byteAt a = p4Zeroed.byteAt a := by decide
theorem witness_WrongLengthResultDependsOnTheLengthAlone :
    p7.inLen ≠ 32 ∧ (p4.deliver (List.replicate 31 0#8)).inLen = p7.inLen := by decide
theorem witness_AbsentSensorHidesThePressureBytes :
    p3.inLen = 32 ∧ (State.reset.deliver (List.replicate 32 0#8)).inLen = 32 ∧ (p3.byteAt 29).getLsbD 5 = false ∧
      ∀ a, a < 32 → a ∉ [12, 13, 25, 26, 28, 30, 31] →
        p3.byteAt a = (State.reset.deliver (List.replicate 32 0#8)).byteAt a := by decide
theorem witness_ResultDeterminesTheBytesThatMatter :
    p4.inLen = 32 ∧ p4Zeroed.inLen = 32 ∧ (p4.byteAt 29).getLsbD 5 = true ∧
      ∃ t v, exec .frmDec p4 = .next t ∧ exec .frmDec p4Zeroed = .next v ∧ t.result = v.result := 
  ⟨rfl, rfl, rfl, _, _, exec_frmDec _, exec_frmDec _, by decide⟩
theorem witness_SentinelNumberExactlyWhenAbsent :
    p3.inLen = 32 ∧ p1.inLen = 32 := by decide
theorem witness_OtherCodesGiveUnknownWithTheDecimalCode :
    (50#8).toNat ∉ [51, 102, 126, 204, 231] ∧ (255#8).toNat ∉ [51, 102, 126, 204, 231] := by decide
theorem witness_LabelsAreInjectiveAndBounded :
    lbl 204#8 = lbl 204#8 := rfl
theorem witness_FlagsRebuildTheByte :
    flgPri 0xA5#8 = flgPri 0xA5#8 ∧ flgSec 0x20#8 = flgSec 0x20#8 := ⟨rfl, rfl⟩
theorem witness_ReadyOperationsGoOn :
    p4.ready .frmLabel ∧ p7.ready .lenChk ∧ p7.ready (.fxpNeg 0#8 128#8) ∧ p7.ready (.flgSec 0#8) :=
      ⟨⟨rfl, .inl rfl⟩, ⟨rfl, .inr rfl⟩, ⟨rfl, .inr rfl⟩, ⟨rfl, .inr rfl⟩⟩
theorem witness_OperandsOutsideTheRuleAreRefused :
    (Instr.fxpPos 0#8 128#8).wf = false ∧ (Instr.fxpNeg 0#8 127#8).wf = false ∧ (Instr.lblUnknown 231#8).wf =
      false := by decide
theorem witness_NoOperationWritesTheInputs :
    ∃ t, exec .frmDec p7 = .next t := ⟨_, rfl⟩
theorem witness_HelpersWriteOnlyTheirAnswer :
    (∃ t, exec (.fxpPos 0#8 127#8) p4 = .next t ∧ (Instr.fxpPos 0#8 127#8).format = .fx16) ∧
      (∃ t, exec .lblDhw p4 = .next t ∧ Instr.lblDhw.format = .code8) ∧
      (∃ t, exec (.flgPri 1#8) p4 = .next t ∧ (encode (.flgPri 1#8)).sel = .flag8 .primary) ∧
      (∃ t, exec (.flgSec 1#8) p4 = .next t ∧ (encode (.flgSec 1#8)).sel = .flag8 .secondary) ∧
      (∃ t, exec (.flgSecSpark 1#8) p4 = .next t ∧ (encode (.flgSecSpark 1#8)).sel = .flagBit .secondary 1) ∧
      (∃ t, exec .fldFlue p4 = .next t ∧ Instr.fldFlue.format = .frame) ∧
      (∃ t, exec .prsOvr p4 = .next t ∧ Instr.prsOvr.format = .none) := 
  ⟨⟨_, rfl, rfl⟩, ⟨_, rfl, rfl⟩, ⟨_, rfl, rfl⟩, ⟨_, rfl, rfl⟩, ⟨_, rfl, rfl⟩, ⟨_, rfl, rfl⟩, ⟨_, rfl, rfl⟩⟩
theorem witness_PrimaryFlagRowsReadTheirBit :
    8 ≤ 8 := by decide
theorem witness_SecondaryFlagRowsReadTheirBit :
    8 ≤ 8 := by decide
theorem witness_NoOperationReadsWhatAnEarlierStepGave :
    (∃ t, exec (.flgPriPump 8#8) p4 = .next t ∧ (Instr.flgPriPump 8#8).format = .flag8) ∧
      p4.inLen = p4Flue.inLen ∧ p4.mem = p4Flue.mem ∧ p4.build ≠ p4Flue.build := ⟨⟨_, rfl, rfl⟩, rfl, rfl, by decide⟩
theorem witness_FrameOperationsWriteOnlyWhatTheyBuild :
    Instr.fldIocur ∈ frameOps ∧ (∃ t, exec .fldIocur p4Flue = .next t) ∧ p4Flue.build.Within p4Flue.wires :=
      ⟨by decide, ⟨_, rfl⟩, by constructor <;> decide⟩
theorem witness_StepKeepsTheInvariant :
    p4Flue.Inv ∧ ∃ t, step p4Flue = .next t := 
  ⟨⟨State.deliver_wf State.reset _, fun _ => rfl, by constructor <;> decide, fun o h => nomatch h⟩, _, exec_frmDec p4Flue⟩
theorem witness_DeliveryEstablishesTheInvariant :
    p4Flue.Inv ∧ 31 < (List.replicate 32 0#8).length ∧ 31 < 32 := 
  ⟨witness_StepKeepsTheInvariant.1, by decide, by decide⟩
theorem witness_EqualBuffersAreEqualData :
    Memory.wf p4.mem ∧ Memory.wf p4.mem ∧ ∀ a, Memory.read p4.mem a = Memory.read p4.mem a := 
  ⟨State.deliver_wf State.reset _, State.deliver_wf State.reset _, fun _ => rfl⟩
theorem witness_PortsCarryTheRecord :
    6 ≤ 6 ∧ p4.inLen = 32 ∧ p3.inLen = 32 := by decide
theorem witness_PortsCarryTheError :
    (p7.inLen ≠ 32 ∧ 6 ≤ 6 ∧ p7.inLen < 2 ^ 6) ∧ (5 < 6 ∨ 2 ^ 5 ≤ p4.inLen) ∧
      (6 < 6 ∨ 2 ^ 6 ≤ (State.reset.deliver (List.replicate 64 0#8)).inLen) := by decide

end Sys2Proof.Tests
end

/-! SUPPORT and PROOFS. Selecting and running an operation, the decoder on encoded operations, what each kind of
operation gives back, and the result of a delivered buffer (00_scope.md R2, R8, R9). -/

namespace Sys2Proof

/-! ### The decoder on an encoded operation -/

theorem decodeFx16_of_le {low high : Byte} (h : high.toNat ≤ Machine.consts.signThreshold) :
    decodeFx16 low high = .fxpPos low high :=
  if_neg (Nat.not_lt.2 h)

theorem decodeFx16_of_lt {low high : Byte} (h : Machine.consts.signThreshold < high.toNat) :
    decodeFx16 low high = .fxpNeg low high :=
  if_pos h

/-- A code that is in no row of the table selects the fallback (30_encoding.md R58, R63). -/
theorem decodeCode8_of_unknown {code : Byte} (h : Machine.knownCode code = false) :
    decodeCode8 code = .lblUnknown code := by
  simp only [Machine.knownCode, Bool.or_eq_false_iff, beq_eq_false_iff_ne, ne_eq] at h
  obtain ⟨⟨⟨⟨h1, h2⟩, h3⟩, h4⟩, h5⟩ := h
  simp [decodeCode8, h1, h2, h3, h4, h5]

/-- The decoder undoes the encoder on a well-formed operation (30_encoding.md R60). Only the three operations whose
operand selects between rows use that they are well formed. -/
theorem decode_encode {i : Instr} (hi : i.wf = true) : decode (encode i) = .ok i := by
  cases i with
  | fxpPos low high => exact congrArg Except.ok (decodeFx16_of_le (of_decide_eq_true hi))
  | fxpNeg low high => exact congrArg Except.ok (decodeFx16_of_lt (of_decide_eq_true hi))
  | lblUnknown code => exact congrArg Except.ok (decodeCode8_of_unknown (by simpa [Instr.wf] using hi))
  | _ => rfl

/-- The input format that a selection stands for (30_encoding.md R60). -/
def Selector.format : Selector → Format
  | .frame => .frame
  | .lengthCheck => .none
  | .slot _ => .frame
  | .override => .none
  | .frameLabel => .none
  | .fx16 => .fx16
  | .flag8 _ => .flag8
  | .flagBit _ _ => .flag8
  | .code8 => .code8

theorem format_encode_sel (i : Instr) : (encode i).sel.format = i.format := by
  cases i <;> rfl

namespace Machine

/-! ### What a step runs -/

theorem step_of_decode_ok {s : State} {i : Instr} (h : decode s.request = .ok i) : step s = exec i s := by
  simp only [step, State.fetch, h]

theorem step_of_decode_error {s : State} {r : DecodeReject} (h : decode s.request = .error r) :
    step s = .refused .noSuchOperation := by
  simp only [step, State.fetch, h]

/-! ### The result of a buffer -/

/-- The record reads nothing of the state but the bytes. -/
theorem State.telemetry_congr {s u : State} (hm : s.mem = u.mem) : s.telemetry = u.telemetry := by
  have hb : s.byteAt = u.byteAt := by funext a; simp only [State.byteAt, hm]
  simp only [State.telemetry, State.fxAt, State.chPressure, State.pressRaw, hb]

/-- The result reads nothing of the state but the length and the bytes (00_scope.md R2). -/
theorem State.decoded_congr {s u : State} (hl : s.inLen = u.inLen) (hm : s.mem = u.mem) : s.decoded = u.decoded := by
  simp only [State.decoded, hl, State.telemetry_congr hm]

/-! ### What each kind of operation gives back -/

/-- The kind of value that a helper selected in a given way gives back (40_fixed_point.md R70, 41_flags.md R90,
42_status_label.md R120). No value answers a selection that reads the frame or its length. -/
inductive Output.Answers : Selector → Output → Prop where
  | fx16 (h : Int) : Answers .fx16 (.hundredths h)
  | code8 (l : Label) : Answers .code8 (.label l)
  | primary (f : PrimaryFlags) : Answers (.flag8 .primary) (.primaryFlags f)
  | secondary (f : SecondaryFlags) : Answers (.flag8 .secondary) (.secondaryFlags f)
  | flagBit (set : FlagSet) (bit : Nat) (name : Flag) (value : Bool) (hs : name.set = set) :
    Answers (.flagBit set bit) (.flag name value)

/-- What operation `i` gives back when it goes on from `s` to `t`: a helper its value, with nothing else changed; an
operation of the frame nothing, or the result of a transaction. -/
inductive GivesBack (i : Instr) (s t : State) : Prop where
  | helper (o : Output) (ht : t = s.give o) (ho : o.Answers (encode i).sel)
  | ofFrame (hi : i.format = .frame ∨ i.format = .none) (ht : t.output = none ∨ ∃ r, t.output = some (.transaction r))

/-- A two-byte slot gives nothing back. -/
theorem withPair_putBuild_output {offset : Nat} {s t : State} {x : Byte → Byte → Build}
    (h : withPair offset s (fun low high => s.putBuild (x low high)) = .next t) : t.output = none := by
  obtain ⟨_, _, rfl⟩ := withPair_cases h
  rfl

/-- A one-byte slot gives nothing back. -/
theorem withByte_putBuild_output {offset : Nat} {s t : State} {x : Byte → Build}
    (h : withByte offset s (fun b => s.putBuild (x b)) = .next t) : t.output = none := by
  obtain ⟨_, _, rfl⟩ := withByte_cases h
  rfl

/-- What each operation gives back, by the kind of the operation. -/
theorem exec_givesBack {i : Instr} {s t : State} (h : exec i s = .next t) : GivesBack i s t := by
  cases i with
  | lenChk =>
    simp only [exec, execLenChk] at h
    split at h <;> cases h
    · exact .ofFrame (.inr rfl) (.inl rfl)
    · exact .ofFrame (.inr rfl) (.inr ⟨_, rfl⟩)
  | frmDec =>
    rw [exec_frmDec] at h
    cases h
    exact .ofFrame (.inl rfl) (.inr ⟨_, rfl⟩)
  | fldFlue | fldFlow | fldRet | fldDhw | fldBoiler | fldOutdoor | fldPress | fldTset | fldFanset | fldFanact
  | fldFanpwm | fldIocur => exact .ofFrame (.inl rfl) (.inl (withPair_putBuild_output h))
  | fldDcode | fldPflags | fldSflags => exact .ofFrame (.inl rfl) (.inl (withByte_putBuild_output h))
  | prsOvr =>
    obtain ⟨_, _, rfl, _⟩ := execPrsOvr_cases h
    exact .ofFrame (.inr rfl) (.inl rfl)
  | frmLabel =>
    obtain ⟨_, _, rfl, _⟩ := execFrmLabel_cases h
    exact .ofFrame (.inr rfl) (.inl rfl)
  | fxpPos low high =>
    simp only [exec, execFxpPos] at h
    split at h <;> cases h
    exact .helper _ rfl (.fx16 _)
  | fxpNeg low high =>
    simp only [exec, execFxpNeg] at h
    split at h <;> cases h
    exact .helper _ rfl (.fx16 _)
  | flgPri => cases h; exact .helper _ rfl (.primary _)
  | flgSec => cases h; exact .helper _ rfl (.secondary _)
  | flgPriGeneralPowerSwitch | flgPriTapWaterSwitch | flgPriRoomThermostat | flgPriPump | flgPriThreeWayValve
  | flgPriAlarmStatus | flgPriChCascadeRelay | flgPriOpentherm | flgSecGasValve | flgSecSpark | flgSecIoSignal
  | flgSecChOpenthermDisabled | flgSecLowWaterPressure | flgSecPressureSensorPresent | flgSecBurnerBlock
  | flgSecGradientFlag => cases h; exact .helper _ rfl (.flagBit _ _ _ _ rfl)
  | lblDhw | lblChActive | lblChIdle | lblDhwPost | lblChPost => cases h; exact .helper _ rfl (.code8 _)
  | lblUnknown code =>
    simp only [exec, execLblUnknown] at h
    split at h <;> cases h
    exact .helper _ rfl (.code8 _)

end Machine

/-! ### The statements -/

open Machine

/-- Settles O6, by the two outcomes of the fetch. -/
theorem stepRunsTheDecodedOperation : Obligations.StepRunsTheDecodedOperation :=
  fun _ => ⟨fun _ => step_of_decode_ok, fun _ => step_of_decode_error⟩

/-- Settles O7: the request selected is the encoding, and the decoder reads the operation back from it. -/
theorem selectedOperationRuns : Obligations.SelectedOperationRuns :=
  fun _ _ hi => ⟨step_of_decode_ok (decode_encode hi), rfl⟩

/-- Settles O28: the result is the one that the buffer has after a delivery to the reset state. -/
theorem resultDependsOnlyOnTheDeliveredBuffer : Obligations.ResultDependsOnlyOnTheDeliveredBuffer := by
  intro buf
  have hd (s : State) : (s.deliver buf).decoded = (State.reset.deliver buf).decoded := State.decoded_congr rfl rfl
  exact ⟨_, fun s => ⟨_, exec_frmDec _, (State.finish_result _ _).trans (congrArg some (hd s))⟩⟩

/-- Settles O46, by what the operation gives back: a helper's value has the kind of the selection, and no operation of
the frame has a helper's selection. -/
theorem helpersWriteOnlyTheirAnswer : Obligations.HelpersWriteOnlyTheirAnswer := by
  intro i s t h
  have hg := exec_givesBack h
  rw [← format_encode_sel i]
  cases hg with
  | helper o ht ho =>
    rw [ht]
    generalize (encode i).sel = sel at ho
    refine ⟨fun _ => rfl, ?_⟩
    cases ho <;> simp [Selector.format, *]
  | ofFrame hi ht =>
    rw [← format_encode_sel i] at hi
    generalize (encode i).sel = sel at hi
    cases sel <;> simp [Selector.format] at hi ⊢ <;> exact ht

end Sys2Proof

/-! SUPPORT and PROOFS. The state: the invariant and the reset state, a frame's operations in any order, the pressure's
sentinel, the output ports of a record, and no history (10_state.md R10, R14, R19, R22, R25, R26). -/

namespace Sys2Proof.Machine

/-! ### The invariant -/

theorem Build.empty_within (w : Build) : Build.empty.Within w := by constructor <;> exact .inl rfl

@[simp] theorem State.putBuild_wires (s : State) (b : Build) : (s.putBuild b).wires = s.wires := rfl

/-- Whether an output is a value of the block reads nothing of the state but the length and the bytes. -/
theorem Output.of_congr {s u : State} {o : Output} (hl : s.inLen = u.inLen) (hm : s.mem = u.mem) (h : o.Of s) :
    o.Of u := by
  cases o with
  | transaction r => exact Eq.trans h (State.decoded_congr hl hm)
  | _ => exact h

/-- Whatever an operation that goes on does, it keeps the invariant. -/
theorem Change.keeps_inv {s t : State} (hc : Change s t) (h : s.Inv) : t.Inv := by
  cases hc with
  | passed ht => subst ht; exact { mem := h.mem, frame := h.frame, built := h.built, output := fun _ ho => nomatch ho }
  | built b ht hs hb =>
    subst ht
    exact { mem := h.mem, frame := fun _ => hs, built := hb h.built, output := fun _ ho => nomatch ho }
  | finished ht =>
    subst ht
    refine { mem := h.mem, frame := fun hne => absurd rfl hne, built := Build.empty_within _, output := fun o ho => ?_ }
    cases ho
    exact State.decoded_congr rfl rfl
  | gave o ht ho =>
    subst ht
    refine { mem := h.mem, frame := h.frame, built := h.built, output := fun o' ho' => ?_ }
    cases ho'
    exact Output.of_congr rfl rfl ho

/-- A step that goes on is an operation that goes on. -/
theorem step_cases {s t : State} (h : step s = .next t) : ∃ i, decode s.request = .ok i ∧ exec i s = .next t := by
  cases hd : decode s.request with
  | ok i => exact ⟨i, rfl, (step_of_decode_ok hd).symm.trans h⟩
  | error r => rw [step_of_decode_error hd] at h; cases h

/-- Settles O48: each of the four things that an operation can do keeps the invariant. -/
theorem stepKeepsTheInvariant : Obligations.StepKeepsTheInvariant := fun _ _ hi h =>
  have ⟨_, _, hx⟩ := step_cases h
  (exec_cases hx).keeps_inv hi

/-- Settles O49: nothing is built and nothing given back. -/
theorem resetHasTheInvariant : Obligations.ResetHasTheInvariant where
  mem := State.reset_mem_wf
  frame := fun hne => absurd rfl hne
  built := Build.empty_within _
  output := fun _ ho => nomatch ho

/-- Settles O50: the request at reset is `FRM.DEC`, on a buffer of length 0. -/
theorem resetHoldsNothing : Obligations.ResetHoldsNothing :=
  ⟨rfl, rfl, rfl, rfl, _, exec_frmDec State.reset, rfl⟩

/-! ### The operations of a frame, in any order -/

/-- The result being built once the operations `ops` have written their fields: each field that one of them builds is
that of `w`, every other as in `b` (43_frame_decode.md R142). -/
def Build.fill (ops : List Instr) (w b : Build) : Build where
  flue                := if .fldFlue ∈ ops then w.flue else b.flue
  flow                := if .fldFlow ∈ ops then w.flow else b.flow
  return_             := if .fldRet ∈ ops then w.return_ else b.return_
  domesticHotWater    := if .fldDhw ∈ ops then w.domesticHotWater else b.domesticHotWater
  boilerSensor        := if .fldBoiler ∈ ops then w.boilerSensor else b.boilerSensor
  outdoor             := if .fldOutdoor ∈ ops then w.outdoor else b.outdoor
  pressRaw            := if .fldPress ∈ ops then w.pressRaw else b.pressRaw
  temperatureSetpoint := if .fldTset ∈ ops then w.temperatureSetpoint else b.temperatureSetpoint
  fanSpeedSetpoint    := if .fldFanset ∈ ops then w.fanSpeedSetpoint else b.fanSpeedSetpoint
  fanSpeedActual      := if .fldFanact ∈ ops then w.fanSpeedActual else b.fanSpeedActual
  fanPwm              := if .fldFanpwm ∈ ops then w.fanPwm else b.fanPwm
  ioCurrent           := if .fldIocur ∈ ops then w.ioCurrent else b.ioCurrent
  displayCode         := if .fldDcode ∈ ops then w.displayCode else b.displayCode
  primaryFlags        := if .fldPflags ∈ ops then w.primaryFlags else b.primaryFlags
  secondaryFlags      := if .fldSflags ∈ ops then w.secondaryFlags else b.secondaryFlags
  chPressure          := if .prsOvr ∈ ops then w.chPressure else b.chPressure
  statusLabel         := if .frmLabel ∈ ops then w.statusLabel else b.statusLabel

theorem ite_mem_cons {α β : Type} [DecidableEq α] (a i : α) (ops : List α) (x y : β) :
    (if a ∈ i :: ops then x else y) = if a ∈ ops then x else if a ∈ [i] then x else y := by
  by_cases h : a ∈ ops <;> simp [h]

/-- One operation and then the others write what all of them write. -/
theorem Build.fill_cons (i : Instr) (ops : List Instr) (w b : Build) :
    Build.fill (i :: ops) w b = Build.fill ops w (Build.fill [i] w b) := by
  simp only [Build.fill, ite_mem_cons _ i ops]

/-- Once each operation of a frame has run, nothing is left of what was built before. -/
theorem Build.fill_all {ops : List Instr} (h : ∀ i ∈ frameOps, i ∈ ops) (w b : Build) : Build.fill ops w b = w := by
  simp only [frameOps, List.forall_mem_cons] at h
  simp only [Build.fill, h, if_true]

theorem ite_eq_none_or {α : Type} {p : Prop} [Decidable p] {x y : Option α} (h : y = none ∨ y = x) :
    (if p then x else y) = none ∨ (if p then x else y) = x := by
  split
  · exact .inr rfl
  · exact h

theorem Build.Within.fill {b w : Build} (h : b.Within w) (ops : List Instr) : (Build.fill ops w b).Within w := by
  cases h
  constructor <;> exact ite_eq_none_or ‹_›

/-- An operand that a slot builds is there, and of the buffer, if all that is built is. -/
theorem builtBy_eq_of_within {α : Type} {slot : State → Answer} {field : Build → Option α} {s t : State} {v : α}
    (hs : s.inLen = consts.frameLen) (hb : field s.build = none ∨ field s.build = some v) (ht : slot s = .next t)
    (hv : field t.build = some v) : builtBy slot field s = some v := by
  rcases hb with hb | hb
  · exact (builtBy_slot hs hb ht).trans hv
  · exact builtBy_built hs hb

theorem execPrsOvr_next {s : State} (hs : s.inLen = consts.frameLen) (hw : s.build.Within s.wires) :
    execPrsOvr s = .next (s.putBuild { s.build with chPressure := some s.chPressure }) := by
  rw [execPrsOvr, builtBy_eq_of_within hs hw.pressRaw (fldPress_next hs) rfl,
    builtBy_eq_of_within hs hw.secondaryFlags (fldSflags_next hs) rfl]
  rfl

theorem execFrmLabel_next {s : State} (hs : s.inLen = consts.frameLen) (hw : s.build.Within s.wires) :
    execFrmLabel s = .next (s.putBuild { s.build with statusLabel := some (lbl (s.byteAt consts.offDcode)) }) := by
  rw [execFrmLabel, builtBy_eq_of_within hs hw.displayCode (fldDcode_next hs) rfl]

/-- An operation of a frame writes its own field, as it is of the buffer, and no other. -/
theorem exec_frameOp {i : Instr} {s : State} (hs : s.inLen = consts.frameLen) (hw : s.build.Within s.wires)
    (hi : i ∈ frameOps) : exec i s = .next (s.putBuild (Build.fill [i] s.wires s.build)) := by
  cases i with
  | fldFlue | fldFlow | fldRet | fldDhw | fldBoiler | fldOutdoor | fldPress | fldTset | fldFanset | fldFanact
  | fldFanpwm | fldIocur => exact withPair_next hs (by decide)
  | fldDcode | fldPflags | fldSflags => exact withByte_next hs (by decide)
  | prsOvr => exact execPrsOvr_next hs hw
  | frmLabel => exact execFrmLabel_next hs hw
  | _ => simp [frameOps] at hi

theorem runAll_cons {i : Instr} {rest : List Instr} {s t : State} (h : exec i s = .next t) :
    runAll (i :: rest) s = runAll rest t := by
  rw [runAll, h]

/-- Once something is built, operations of a frame, one after another, write the field of each (10_state.md R14). -/
theorem runAll_frameOps {ops : List Instr} {s : State} (hs : s.inLen = consts.frameLen)
    (hops : ∀ i ∈ ops, i ∈ frameOps) : ∀ {b : Build}, b.Within s.wires →
      runAll ops (s.putBuild b) = .next (s.putBuild (Build.fill ops s.wires b)) := by
  induction ops with
  | nil => exact fun _ => rfl
  | cons i rest ih =>
    intro b hb
    obtain ⟨hi, hrest⟩ := List.forall_mem_cons.1 hops
    rw [Build.fill_cons, runAll_cons (exec_frameOp (s := s.putBuild b) hs hb hi)]
    exact ih hrest (hb.fill [i])

/-- Operations of a frame in any order, each of them once at least, build all that is of the buffer. -/
theorem runAll_all_frameOps {ops : List Instr} {s : State} (hs : s.inLen = consts.frameLen)
    (hw : s.build.Within s.wires) (h : ∀ i, i ∈ ops ↔ i ∈ frameOps) : runAll ops s = .next (s.putBuild s.wires) := by
  cases ops with
  | nil => exact absurd ((h .fldFlue).2 (by decide)) List.not_mem_nil
  | cons i rest =>
    obtain ⟨hi, hrest⟩ := List.forall_mem_cons.1 fun j => (h j).1
    rw [runAll_cons (exec_frameOp hs hw hi), runAll_frameOps hs hrest (hw.fill [i]), ← Build.fill_cons,
      Build.fill_all fun j => (h j).2]

/-- Settles O25: an order has the operations of a frame as its members, and the state after them follows from that. -/
theorem orderOfTheFieldsCannotBeObserved : Obligations.OrderOfTheFieldsCannotBeObserved := by
  intro s hs hw ops hp
  have hany := runAll_all_frameOps hs hw fun _ => hp.mem_iff
  exact ⟨hany.trans (runAll_all_frameOps hs hw fun _ => Iff.rfl).symm, _, hany, rfl⟩

/-! ### The sentinel -/

theorem flgSec_pressureSensorPresent (b : Byte) : (flgSec b).pressureSensorPresent = b.getLsbD 5 :=
  bitOf_eq_getLsbD b (by decide)

/-- `ch_pressure` of the buffer, by bit 5 of byte 29 (43_frame_decode.md R158). -/
theorem State.chPressure_eq (s : State) :
    s.chPressure = if (s.byteAt 29).getLsbD 5 then .measured (fxp (s.byteAt 12) (s.byteAt 13)) else .sensorAbsent := by
  rw [← flgSec_pressureSensorPresent]
  rfl

theorem fxpPos_bounds {low high : Byte} (h : high.toNat ≤ consts.signThreshold) :
    0 ≤ fxpPos low high ∧ fxpPos low high ≤ 33910 := by
  have hl := Byte.toNat_lt low
  simp only [fxpPos, consts] at h ⊢
  omega

/-- The magnitude of the negative branch in whole units (40_fixed_point.md R72). -/
theorem negUnits_eq (high : Byte) : negUnits high = 256 - high.toNat := by
  revert high; decide

theorem fxpNeg_bounds {low high : Byte} (h : consts.signThreshold < high.toNat) :
    -3277055 ≤ fxpNeg low high ∧ fxpNeg low high ≤ -25600 := by
  have hl := Byte.toNat_lt low
  have hh := Byte.toNat_lt high
  simp only [fxpNeg, negUnits_eq, consts] at h ⊢
  omega

/-- The two ranges of `FXP`, one for each branch (40_fixed_point.md R76). -/
theorem fxp_ranges (low high : Byte) :
    (0 ≤ fxp low high ∧ fxp low high ≤ 33910) ∨ (-3277055 ≤ fxp low high ∧ fxp low high ≤ -25600) := by
  rcases le_or_gt high.toNat consts.signThreshold with h | h
  · rw [fxp_of_le h]; exact .inl (fxpPos_bounds h)
  · rw [fxp_of_lt h]; exact .inr (fxpNeg_bounds h)

/-- The sentinel lies between the two ranges of `FXP` (40_fixed_point.md R77 (c)). -/
theorem fxp_ne_sentinel (low high : Byte) : fxp low high ≠ sentinel := by
  have hr := fxp_ranges low high
  have hs : sentinel = -3500 := rfl
  omega

/-- Settles O33: `FXP` never gives the sentinel, so that only an absent sensor has it. -/
theorem sentinelNumberExactlyWhenAbsent : Obligations.SentinelNumberExactlyWhenAbsent := by
  intro s hs
  refine ⟨_, s.telemetry, exec_frmDec s, congrArg some (if_pos hs), ?_⟩
  have hp : s.telemetry.chPressure = _ := s.chPressure_eq
  rw [hp]
  cases (s.byteAt 29).getLsbD 5 with
  | false => exact ⟨⟨fun _ => rfl, fun _ => rfl⟩, ⟨fun _ => rfl, fun _ => rfl⟩⟩
  | true => exact ⟨⟨fun h => absurd h (fxp_ne_sentinel _ _), nofun⟩, ⟨nofun, nofun⟩⟩

/-! ### The ports of a record -/

/-- A count of hundredths in the range of the port is what the port reads as (10_state.md R22, D2). -/
theorem fxPort_toInt {h : Int} (hl : -4194304 ≤ h) (hu : h < 4194304) : (fxPort h).toInt = h := by
  rw [fxPort, BitVec.toInt_ofInt]
  exact Int.bmod_eq_of_le hl hu

/-- 23 bits are enough for `FXP` (00_scope.md R7). -/
theorem fxPort_fxp_toInt (low high : Byte) : (fxPort (fxp low high)).toInt = fxp low high := by
  have hr := fxp_ranges low high
  exact fxPort_toInt (by omega) (by omega)

/-- The flags of a byte rebuild the byte (41_flags.md R109). -/
theorem flgPri_toByte (b : Byte) : (flgPri b).toByte = b := by
  revert b; decide

/-- The bits of both flag bytes have the same weights, so one rebuilding serves both. -/
theorem flgSec_toByte (b : Byte) : (flgSec b).toByte = b := flgPri_toByte b

theorem labelTextOfPort_toPort (id : LabelId) (code : Byte) :
    labelTextOfPort id.toPort code = .ok (labelText id code) := by
  cases id <;> rfl

/-- A label is the text of its id and its code (42_status_label.md R121). -/
theorem labelText_labelIdOf (code : Byte) : labelText (labelIdOf code) code = lbl code := by
  unfold labelIdOf lbl
  split_ifs <;> rfl

/-- A buffer of 32 bytes can be presented, and its ports are those of its record. -/
theorem State.outPorts_of_frame {lenW : Nat} {s : State} (hw : Config.lenWMin ≤ lenW) (hs : s.inLen = consts.frameLen) :
    s.outPorts lenW = .ok (OutPorts.ofOk lenW s.draws s.telemetry) := by
  have hfit : s.inLen < 2 ^ lenW := hs ▸ Nat.lt_of_lt_of_le (by decide) (Nat.pow_le_pow_right (by decide) hw)
  have hp : s.presentable lenW = true := by simp [State.presentable, hw, hfit]
  rw [State.outPorts, if_pos hp, State.decoded, if_pos hs]
  rfl

/-- Settles O53, port by port. -/
theorem portsCarryTheRecord : Obligations.PortsCarryTheRecord := by
  intro lenW s hw hs
  have hp : s.telemetry.chPressure = _ := s.chPressure_eq
  refine ⟨_, State.outPorts_of_frame hw hs, rfl, fxPort_fxp_toInt _ _, fxPort_fxp_toInt _ _, fxPort_fxp_toInt _ _,
    fxPort_fxp_toInt _ _, fxPort_fxp_toInt _ _, fxPort_fxp_toInt _ _, fxPort_fxp_toInt _ _, fxPort_fxp_toInt _ _,
    fxPort_fxp_toInt _ _, fxPort_fxp_toInt _ _, fxPort_fxp_toInt _ _, ?_, ?_, rfl, flgPri_toByte _, flgSec_toByte _,
    (labelTextOfPort_toPort _ _).trans (congrArg _ (labelText_labelIdOf _))⟩
  · simp only [OutPorts.ofOk, hp]
    split
    · exact fxPort_fxp_toInt _ _
    · rfl
  · simp only [OutPorts.ofOk, hp]
    split <;> rfl

/-! ### No history -/

/-- An operation answers alike whatever an earlier step gave back: each replaces it without reading it. -/
theorem exec_output_irrelevant (i : Instr) (s : State) (o : Option Output) :
    exec i { s with output := o } = exec i s := by
  cases i <;> rfl

/-- A helper used alone gives one value in every state, or takes its operands in none (00_scope.md R9). -/
theorem exec_helper {i : Instr} (hi : i.format = .fx16 ∨ i.format = .flag8 ∨ i.format = .code8) :
    (∃ o, ∀ s, exec i s = .next (s.give o)) ∨ ∀ s, exec i s = .refused .operandOutsideRule := by
  cases i with
  | fxpPos low high =>
    by_cases h : high.toNat ≤ consts.signThreshold
    · exact .inl ⟨_, fun _ => if_pos h⟩
    · exact .inr fun _ => if_neg h
  | fxpNeg low high =>
    by_cases h : consts.signThreshold < high.toNat
    · exact .inl ⟨_, fun _ => if_pos h⟩
    · exact .inr fun _ => if_neg h
  | lblUnknown code =>
    by_cases h : knownCode code = true
    · exact .inr fun _ => if_pos h
    · exact .inl ⟨_, fun _ => if_neg h⟩
  | lenChk | prsOvr | frmLabel | frmDec | fldFlue | fldFlow | fldRet | fldDhw | fldBoiler | fldOutdoor | fldPress
  | fldTset | fldFanset | fldFanact | fldFanpwm | fldIocur | fldDcode | fldPflags | fldSflags =>
    simp [Instr.format] at hi
  | _ => exact .inl ⟨_, fun _ => rfl⟩

theorem exec_lenChk_of_frame {s : State} (hs : s.inLen = consts.frameLen) : exec .lenChk s = .next s.goOn :=
  if_pos hs

theorem exec_lenChk_of_other {s : State} (hs : s.inLen ≠ consts.frameLen) :
    exec .lenChk s = .next s.raiseUnexpectedLength :=
  if_neg hs

/-- Settles O55: a helper's answer is stated for all states at once, and a transaction's is the result of the buffer. -/
theorem noOperationReadsWhatAnEarlierStepGave : Obligations.NoOperationReadsWhatAnEarlierStepGave := by
  refine ⟨exec_output_irrelevant, fun i s t u hi h => ?_, fun i s u hi hl hm => ?_⟩
  · obtain ⟨o, ho⟩ | hr := exec_helper hi
    · rw [ho] at h
      cases h
      exact ho u
    · rw [hr] at h
      cases h
  · rcases hi with rfl | rfl
    · exact ⟨_, _, exec_frmDec s, exec_frmDec u, by simp [State.decoded_congr hl hm]⟩
    · by_cases hs : s.inLen = consts.frameLen
      · exact ⟨_, _, exec_lenChk_of_frame hs, exec_lenChk_of_frame (hl ▸ hs), rfl⟩
      · exact ⟨_, _, exec_lenChk_of_other hs, exec_lenChk_of_other (hl ▸ hs), by simp [hl]⟩

end Sys2Proof.Machine

/-! SUPPORT and PROOFS. The frame buffer as memory (20_memory.md): reads without a frame, the bytes that do not matter,
no write, and the canonical form. -/

namespace Sys2Proof.Machine

/-! ### Reads without a frame -/

theorem execPrsOvr_fault {s : State} (hs : s.inLen ≠ consts.frameLen) :
    execPrsOvr s = .fault (.readOutsideFrame consts.offPress) := by
  rw [execPrsOvr, builtBy_none hs]

theorem execFrmLabel_fault {s : State} (hs : s.inLen ≠ consts.frameLen) :
    execFrmLabel s = .fault (.readOutsideFrame consts.offDcode) := by
  rw [execFrmLabel, builtBy_none hs]

/-- Settles O18: each slot is a read at its offset, and the two other operations take what a slot builds. -/
theorem frameReadsStopWithoutAFrame : Obligations.FrameReadsStopWithoutAFrame := fun _ hs =>
  ⟨withPair_fault hs, withPair_fault hs, withPair_fault hs, withPair_fault hs, withPair_fault hs, withPair_fault hs,
    withPair_fault hs, withPair_fault hs, withPair_fault hs, withPair_fault hs, withPair_fault hs, withPair_fault hs,
    withByte_fault hs, withByte_fault hs, withByte_fault hs, execPrsOvr_fault hs, execFrmLabel_fault hs⟩

/-! ### The bytes that do not matter -/

theorem State.decoded_of_frame {s : State} (hs : s.inLen = consts.frameLen) : s.decoded = .ok s.telemetry :=
  if_pos hs

theorem State.decoded_of_other {s : State} (hs : s.inLen ≠ consts.frameLen) :
    s.decoded = .err (.unexpectedLength consts.frameLen s.inLen) :=
  if_neg hs

/-- The record reads no reserved byte (20_memory.md R43), and the pressure bytes only for `ch_pressure`. -/
theorem State.telemetry_eq_of_bytes {s u : State} (hp : s.chPressure = u.chPressure)
    (h : ∀ a, a < 32 → a ∉ [12, 13, 25, 26, 28, 30, 31] → s.byteAt a = u.byteAt a) : s.telemetry = u.telemetry := by
  simp (disch := decide) only [State.telemetry, State.fxAt, hp, h]

/-- Settles O29: both results are the record of the bytes that are not reserved. -/
theorem reservedBytesChangeNothing : Obligations.ReservedBytesChangeNothing := by
  intro s u hs hu h
  have hp : s.chPressure = u.chPressure := by simp (disch := decide) only [State.chPressure_eq, h]
  have ht : s.telemetry = u.telemetry :=
    State.telemetry_eq_of_bytes hp fun a ha hn => h a ha fun hm =>
      hn (List.mem_cons_of_mem _ (List.mem_cons_of_mem _ hm))
  have hd : u.decoded = s.decoded := by rw [State.decoded_of_frame hs, State.decoded_of_frame hu, ht]
  exact ⟨_, _, _, exec_frmDec s, exec_frmDec u, State.finish_result _ _, congrArg some hd⟩

/-- Settles O30: the result is the error with the length, and no byte is in it. -/
theorem wrongLengthResultDependsOnTheLengthAlone : Obligations.WrongLengthResultDependsOnTheLengthAlone := by
  intro s u hs hl
  have hd : u.decoded = s.decoded := by rw [State.decoded_of_other hs, State.decoded_of_other (hl ▸ hs), hl]
  exact ⟨_, _, exec_frmDec s, exec_frmDec u, congrArg some (State.decoded_of_other hs), congrArg some hd⟩

/-! ### No write -/

/-- Whatever an operation that goes on does, the inputs stay (20_memory.md R42). -/
theorem Change.keeps_inputs {s t : State} (hc : Change s t) :
    t.mem = s.mem ∧ t.inLen = s.inLen ∧ t.request = s.request ∧ ∀ a, t.byteAt a = s.byteAt a := by
  cases hc with
  | passed ht | built _ ht | finished ht | gave _ ht => subst ht; exact ⟨rfl, rfl, rfl, fun _ => rfl⟩

/-- Settles O45: each of the four things that an operation can do leaves the inputs. -/
theorem noOperationWritesTheInputs : Obligations.NoOperationWritesTheInputs := fun _ _ _ h =>
  (exec_cases h).keeps_inputs

/-! ### The canonical form -/

theorem Memory.read_head (a : Nat) (b : Byte) (m : List Host.Cell) : Memory.read ((a, b) :: m) a = b :=
  if_pos rfl

/-- What the tail of a canonical buffer reads, by what the whole reads. -/
theorem Memory.read_tail {a : Nat} {b : Byte} {m : List Host.Cell} (h : Memory.wf ((a, b) :: m)) (x : Nat) :
    Memory.read m x = if x = a then Memory.blank else Memory.read ((a, b) :: m) x := by
  split
  · next hx => exact Memory.read_below (Memory.from_tail h) (by omega)
  · next hx => exact (if_neg (Ne.symm hx)).symm

/-- The first listed offset of a canonical buffer reads as no unlisted offset does. -/
theorem Memory.read_head_ne_blank {a : Nat} {b : Byte} {m : List Host.Cell} (h : Memory.wf ((a, b) :: m)) :
    Memory.read ((a, b) :: m) a ≠ Memory.blank := by
  rw [Memory.read_head]
  exact h.2 (a, b) List.mem_cons_self

/-- In a canonical buffer the first listed offset is the least that does not read as an unlisted one. -/
theorem Memory.head_le_of_read_ne_blank {a x : Nat} {b : Byte} {m : List Host.Cell} (h : Memory.wf ((a, b) :: m))
    (hx : Memory.read ((a, b) :: m) x ≠ Memory.blank) : a ≤ x := by
  by_contra hlt
  refine hx (Memory.read_below (lo := a) ?_ (by omega))
  exact List.forall_mem_cons.2 ⟨le_rfl, Memory.from_mono (Nat.le_succ a) (Memory.from_tail h)⟩

/-- Canonical buffers that read alike have the same first entry. -/
theorem Memory.head_eq_of_read_eq {c d : Host.Cell} {m m' : List Host.Cell} (h : Memory.wf (c :: m))
    (h' : Memory.wf (d :: m')) (hr : ∀ x, Memory.read (c :: m) x = Memory.read (d :: m') x) : c = d := by
  obtain ⟨a, b⟩ := c
  obtain ⟨a', b'⟩ := d
  have hle : a ≤ a' := Memory.head_le_of_read_ne_blank h (hr a' ▸ Memory.read_head_ne_blank h')
  have hge : a' ≤ a := Memory.head_le_of_read_ne_blank h' (hr a ▸ Memory.read_head_ne_blank h)
  obtain rfl : a = a' := le_antisymm hle hge
  have hb := hr a
  rw [Memory.read_head, Memory.read_head] at hb
  rw [hb]

/-- Settles O52, by induction on the first buffer: the first entries are equal, and the tails read alike again. -/
theorem equalBuffersAreEqualData : Obligations.EqualBuffersAreEqualData := by
  intro m
  induction m with
  | nil =>
    intro m' _ h' hr
    cases m' with
    | nil => rfl
    | cons d _ => exact absurd (hr d.1).symm (Memory.read_head_ne_blank h')
  | cons c m ih =>
    intro m' h h' hr
    cases m' with
    | nil => exact absurd (hr c.1) (Memory.read_head_ne_blank h)
    | cons d m' =>
      obtain rfl := Memory.head_eq_of_read_eq h h' hr
      refine congrArg (c :: ·) (ih m' (Memory.wf_tail h) (Memory.wf_tail h') fun x => ?_)
      rw [Memory.read_tail h, Memory.read_tail h', hr]

end Sys2Proof.Machine

/-! SUPPORT and PROOFS. The encoding (30_encoding.md): what each part of the decoder reads is an operation on operands its
rule takes, whose encoding is what was read; the offsets of the slots; and the sixteen-bit word of `FX16`. -/

namespace Sys2Proof

open Machine

/-! ### What is decoded is well formed and encodes back -/

/-- Each row of the slot table is the encoding of its operation (30_encoding.md R51). -/
theorem encode_of_mem_slotTable : ∀ row ∈ slotTable, row.2.wf = true ∧ encode row.2 = ⟨.slot row.1, []⟩ := by
  decide

/-- Each row of a flag table is the encoding of its operation on any byte (30_encoding.md R60). -/
theorem encode_of_mem_flagTable {set : FlagSet} {bit : Nat} {row : Byte → Instr} (h : (bit, row) ∈ flagTable set)
    (b : Byte) : (row b).wf = true ∧ encode (row b) = ⟨.flagBit set bit, [b]⟩ := by
  have hall : ∀ r ∈ flagTable set, (r.2 b).wf = true ∧ encode (r.2 b) = ⟨.flagBit set r.1, [b]⟩ := by
    cases set <;> simp [flagTable, Instr.wf, encode]
  exact hall _ h

theorem encode_decodeFx16 (low high : Byte) :
    (decodeFx16 low high).wf = true ∧ encode (decodeFx16 low high) = ⟨.fx16, [low, high]⟩ := by
  rcases Nat.lt_or_ge consts.signThreshold high.toNat with h | h
  · rw [decodeFx16_of_lt h]; exact ⟨decide_eq_true h, rfl⟩
  · rw [decodeFx16_of_le h]; exact ⟨decide_eq_true h, rfl⟩

theorem encode_decodeFlag8 (set : FlagSet) (b : Byte) :
    (decodeFlag8 set b).wf = true ∧ encode (decodeFlag8 set b) = ⟨.flag8 set, [b]⟩ := by
  cases set <;> exact ⟨rfl, rfl⟩

/-- A known code is one of the five of the table, each with a row of its own; any other is its own operand. -/
theorem encode_decodeCode8 (code : Byte) :
    (decodeCode8 code).wf = true ∧ encode (decodeCode8 code) = ⟨.code8, [code]⟩ := by
  cases hk : knownCode code with
  | false => rw [decodeCode8_of_unknown hk]; exact ⟨congrArg (!·) hk, rfl⟩
  | true =>
    simp only [knownCode, Bool.or_eq_true, beq_iff_eq] at hk
    obtain (((rfl | rfl) | rfl) | rfl) | rfl := hk <;> exact ⟨rfl, rfl⟩

/-- A request for a slot that decodes carries no operand byte and names a row of the slot table. -/
theorem decode_slot_cases {offset : Nat} {operand : List Byte} {i : Instr}
    (h : decode ⟨.slot offset, operand⟩ = .ok i) : operand = [] ∧ (offset, i) ∈ slotTable := by
  cases hs : decodeSlot offset with
  | error r => simp only [decode, hs] at h; cases h
  | ok j =>
    simp only [decode, hs] at h
    obtain ⟨rfl, rfl⟩ := noOperand_cases h
    exact ⟨rfl, decodeSlot_cases hs⟩

/-- What a selection decodes to, with the operand bytes that it takes: the encoder gives both back. -/
theorem encode_of_decode {sel : Selector} {operand : List Byte} {i : Instr} (h : decode ⟨sel, operand⟩ = .ok i) :
    i.wf = true ∧ encode i = ⟨sel, operand⟩ := by
  cases sel with
  | frame | lengthCheck | override | frameLabel => obtain ⟨rfl, rfl⟩ := noOperand_cases h; exact ⟨rfl, rfl⟩
  | slot offset =>
    obtain ⟨rfl, hrow⟩ := decode_slot_cases h
    exact encode_of_mem_slotTable _ hrow
  | fx16 => obtain ⟨low, high, rfl, hi⟩ := twoBytes_cases h; cases hi; exact encode_decodeFx16 low high
  | flag8 set => obtain ⟨b, rfl, hi⟩ := oneByte_cases h; cases hi; exact encode_decodeFlag8 set b
  | flagBit set bit =>
    obtain ⟨b, rfl, hi⟩ := oneByte_cases h
    obtain ⟨row, hrow, rfl⟩ := decodeFlagBit_cases hi
    exact encode_of_mem_flagTable hrow b
  | code8 => obtain ⟨b, rfl, hi⟩ := oneByte_cases h; cases hi; exact encode_decodeCode8 b

/-! ### The offsets of the slots -/

theorem decodeSlot_of_not_mem {offset : Nat} (h : offset ∉ slotTable.map Prod.fst) :
    decodeSlot offset = .error (.noSlotAt offset) := by
  have hnone : slotTable.lookup offset = none := by
    refine List.lookup_eq_none_iff.2 fun row hrow => bne_iff_ne.2 ?_
    rintro rfl
    exact h (List.mem_map_of_mem hrow)
  simp only [decodeSlot, hnone]

/-! ### The sixteen-bit word -/

/-- The top bit of the word is the top bit of the high byte (30_encoding.md R52). -/
theorem bit15_append_iff (low high : Byte) : (high ++ low : BitVec 16).getLsbD 15 = true ↔ 127 < high.toNat :=
  calc (high ++ low : BitVec 16).getLsbD 15 = true
      ↔ high.msb = true := by rw [BitVec.getLsbD_append, BitVec.msb_eq_getLsbD_last]; rfl
    _ ↔ 127 < high.toNat := by rw [BitVec.msb_eq_decide, decide_eq_true_iff]; rfl

theorem decodeFx16_eq_ite_bit15 (low high : Byte) :
    decodeFx16 low high = if (high ++ low : BitVec 16).getLsbD 15 then .fxpNeg low high else .fxpPos low high :=
  if_congr (bit15_append_iff low high).symm rfl rfl

/-- A word of sixteen bits is read as `FX16` on its two bytes, bits 7:0 first. -/
theorem tableRequest_append (low high : Byte) :
    tableRequest 16 (high ++ low : BitVec 16).toNat = ⟨.fx16, [low, high]⟩ := by
  have hlow : BitVec.ofNat 8 (high ++ low : BitVec 16).toNat = low := BitVec.extractLsb'_append_eq_right
  have hhigh : BitVec.ofNat 8 ((high ++ low : BitVec 16).toNat / 2 ^ 8) = high := by
    rw [← Nat.shiftRight_eq_div_pow]
    exact BitVec.extractLsb'_append_eq_left
  calc tableRequest 16 (high ++ low : BitVec 16).toNat
      = ⟨.fx16, [BitVec.ofNat 8 (high ++ low : BitVec 16).toNat,
          BitVec.ofNat 8 ((high ++ low : BitVec 16).toNat / 2 ^ 8)]⟩ := rfl
    _ = ⟨.fx16, [low, high]⟩ := by rw [hlow, hhigh]

theorem decodeTableWord_of_decode {nbits w : Nat} {i : Instr} (h : decode (tableRequest nbits w) = .ok i) :
    decodeTableWord nbits w = some i := by
  simp only [decodeTableWord, h]

/-! ### The statements -/

/-- Settles O1, by the cases of the operation. -/
theorem decodeOfEncodeIsTheOperation : Obligations.DecodeOfEncodeIsTheOperation :=
  fun _ => decode_encode

/-- Settles O2, by the cases of the selection. -/
theorem decodedRequestIsItsEncoding : Obligations.DecodedRequestIsItsEncoding :=
  fun _ _ => encode_of_decode

/-- Settles O3: the fifteen rows by lookup, and any other offset is the first column of no row. -/
theorem slotsStartExactlyAtTheMappedOffsets : Obligations.SlotsStartExactlyAtTheMappedOffsets := by
  refine ⟨rfl, rfl, rfl, rfl, rfl, rfl, rfl, rfl, rfl, rfl, rfl, rfl, rfl, rfl, rfl, fun offset h => ?_⟩
  exact congrArg (·.bind (noOperand · [])) (decodeSlot_of_not_mem h)

/-- Settles O4: the branch test is bit 15, and the word's request is the two bytes'. -/
theorem fx16WordSelectsItsBranch : Obligations.Fx16WordSelectsItsBranch := by
  intro low high
  have hd : decode ⟨.fx16, [low, high]⟩ =
      .ok (if (high ++ low : BitVec 16).getLsbD 15 then .fxpNeg low high else .fxpPos low high) :=
    congrArg Except.ok (decodeFx16_eq_ite_bit15 low high)
  exact ⟨hd, decodeTableWord_of_decode (tableRequest_append low high ▸ hd), bit15_append_iff low high⟩

end Sys2Proof

/-! SUPPORT and PROOFS. The fixed-point decoder (40_fixed_point.md): its value in each branch as plain arithmetic, what
that says of ranges, gaps and order, and the operands that a helper refuses. -/

namespace Sys2Proof.Machine

/-! ### The value in each branch -/

theorem fxpNeg_eq (low high : Byte) : fxpNeg low high = -((256 - (high.toNat : Int)) * 25600) - low.toNat := by
  simp only [fxpNeg, negUnits_eq, consts]
  omega

theorem fxp_eq_of_le {low high : Byte} (h : high.toNat ≤ 127) :
    fxp low high = (high.toNat : Int) * 265 + low.toNat :=
  fxp_of_le h

theorem fxp_eq_of_lt {low high : Byte} (h : 127 < high.toNat) :
    fxp low high = -((256 - (high.toNat : Int)) * 25600) - low.toNat :=
  (fxp_of_lt h).trans (fxpNeg_eq low high)

/-- The two branches of `FXP`, each with its value (40_fixed_point.md R71, R72). -/
theorem fxp_cases (low high : Byte) :
    (high.toNat ≤ 127 ∧ fxp low high = (high.toNat : Int) * 265 + low.toNat) ∨
    (127 < high.toNat ∧ fxp low high = -((256 - (high.toNat : Int)) * 25600) - low.toNat) := by
  rcases Nat.lt_or_ge 127 high.toNat with h | h
  · exact .inr ⟨h, fxp_eq_of_lt h⟩
  · exact .inl ⟨h, fxp_eq_of_le h⟩

theorem fxp_bounds_of_le {low high : Byte} (h : high.toNat ≤ 127) : 0 ≤ fxp low high ∧ fxp low high ≤ 33910 :=
  fxp_of_le (low := low) h ▸ fxpPos_bounds h

theorem fxp_bounds_of_lt {low high : Byte} (h : 127 < high.toNat) :
    -3277055 ≤ fxp low high ∧ fxp low high ≤ -25600 :=
  fxp_of_lt (low := low) h ▸ fxpNeg_bounds h

/-- The branch test is the sign bit of the high byte, which is bit 15 of any word with that byte on top
(40_fixed_point.md R70). -/
theorem signThreshold_lt_iff_bit7 (high : Byte) : 127 < high.toNat ↔ high.getLsbD 7 = true := by
  rw [← bit15_append_iff 0#8 high, BitVec.getLsbD_append]
  rfl

/-! ### The helpers used alone -/

theorem decode_fx16 (low high : Byte) : decode ⟨.fx16, [low, high]⟩ = .ok (decodeFx16 low high) := rfl

theorem exec_fxpPos_of_le {low high : Byte} (s : State) (h : high.toNat ≤ consts.signThreshold) :
    exec (.fxpPos low high) s = .next (s.give (.hundredths (fxpPos low high))) :=
  if_pos h

theorem exec_fxpNeg_of_lt {low high : Byte} (s : State) (h : consts.signThreshold < high.toNat) :
    exec (.fxpNeg low high) s = .next (s.give (.hundredths (fxpNeg low high))) :=
  if_pos h

/-- Settles O8: the next state is `State.give` of the positive rule's value. -/
theorem fxpPosIsHighTimes265PlusLow : Obligations.FxpPosIsHighTimes265PlusLow := fun low high s h =>
  ⟨(decode_fx16 low high).trans (congrArg Except.ok (decodeFx16_of_le h)), exec_fxpPos_of_le s h, fxpPos_bounds h⟩

/-- Settles O9: the next state is `State.give` of the negative rule's value, and `m` is `negUnits`. -/
theorem fxpNegIsWholeUnitsMinusLow : Obligations.FxpNegIsWholeUnitsMinusLow := by
  intro low high s h
  have hm : ((high ^^^ 255#8).toNat : Int) + 1 = 256 - high.toNat := negUnits_eq high
  exact ⟨(decode_fx16 low high).trans (congrArg Except.ok (decodeFx16_of_lt h)), by omega, exec_fxpNeg_of_lt s h,
    fxpNeg_bounds h⟩

/-- Settles O44: only three operations can be ill formed, and each tests what makes it so. -/
theorem operandsOutsideTheRuleAreRefused : Obligations.OperandsOutsideTheRuleAreRefused := by
  intro i s hi
  cases i with
  | fxpPos low high => exact if_neg (of_decide_eq_false hi)
  | fxpNeg low high => exact if_neg (of_decide_eq_false hi)
  | lblUnknown code => exact if_pos (by simpa [Instr.wf] using hi)
  | _ => cases hi

/-! ### `FXP` as a function -/

/-- Settles O10: the two branches, each by its value. -/
theorem fxpChoosesItsBranchByTheHighByte : Obligations.FxpChoosesItsBranchByTheHighByte := by
  refine fun low high => ⟨?_, signThreshold_lt_iff_bit7 high⟩
  split
  · next h => exact fxp_eq_of_lt h
  · next h => exact fxp_eq_of_le (Nat.not_lt.1 h)

/-- Settles O11: the width follows from the ranges, and the ends are evaluated. -/
theorem fxpRangeAndPortWidth : Obligations.FxpRangeAndPortWidth := by
  refine ⟨fun low high => ⟨fxp_bounds_of_le, fxp_bounds_of_lt, ?_⟩, by decide⟩
  have hr := fxp_ranges low high
  omega

/-- Settles O12: in one branch the low byte is too small to make up for a step of the high byte, and the two branches
have no value in common. -/
theorem fxpIsInjective : Obligations.FxpIsInjective := by
  intro low high low' high' h
  have hl := Byte.toNat_lt low
  have hl' := Byte.toNat_lt low'
  have hh := Byte.toNat_lt high
  have hh' := Byte.toNat_lt high'
  have hnat : low.toNat = low'.toNat ∧ high.toNat = high'.toNat := by
    rcases fxp_cases low high with ⟨hb, hv⟩ | ⟨hb, hv⟩ <;>
      rcases fxp_cases low' high' with ⟨hb', hv'⟩ | ⟨hb', hv'⟩ <;> omega
  exact ⟨BitVec.eq_of_toNat_eq hnat.1, BitVec.eq_of_toNat_eq hnat.2⟩

/-- The low byte is too small to reach the next multiple of 265 (40_fixed_point.md R77 (b)). -/
theorem fxp_ne_of_gap (low high : Byte) {k g : Int} (hk : 0 ≤ k) (hlo : k * 265 + 256 ≤ g)
    (hhi : g ≤ k * 265 + 264) : fxp low high ≠ g := by
  have hl := Byte.toNat_lt low
  rcases fxp_cases low high with ⟨_, hv⟩ | ⟨hb, _⟩
  · omega
  · obtain ⟨-, hneg⟩ := fxp_bounds_of_lt (low := low) hb
    omega

/-- No value lies between the two ranges (40_fixed_point.md R77 (c)). -/
theorem fxp_ne_of_between (low high : Byte) {g : Int} (hlo : -25599 ≤ g) (hhi : g ≤ -1) : fxp low high ≠ g := by
  have hr := fxp_ranges low high
  omega

theorem fxp_zero : fxp 0#8 0#8 = 0 := by decide

/-- Settles O13: the gaps, with the two sentinels between the ranges; the zero by injectivity. -/
theorem fxpGapsAndSentinel : Obligations.FxpGapsAndSentinel := by
  refine fun low high => ⟨fun _ _ hk _ => fxp_ne_of_gap low high hk, fun _ => fxp_ne_of_between low high,
    fxp_ne_of_between low high (by decide) (by decide), fxp_ne_of_between low high (by decide) (by decide),
    fun h => fxpIsInjective _ _ _ _ (h.trans fxp_zero.symm), ?_⟩
  rintro ⟨rfl, rfl⟩
  exact fxp_zero

/-- In the positive branch `FXP` rises with the word `{high, low}` (40_fixed_point.md R77 (d)). -/
theorem fxp_lt_of_word_lt {low high low' high' : Byte} (h : high.toNat ≤ 127) (h' : high'.toNat ≤ 127)
    (hw : high.toNat * 256 + low.toNat < high'.toNat * 256 + low'.toNat) : fxp low high < fxp low' high' := by
  have hl := Byte.toNat_lt low
  have hl' := Byte.toNat_lt low'
  rw [fxp_eq_of_le h, fxp_eq_of_le h']
  omega

/-- In the negative branch a step of the high byte outweighs any low byte (40_fixed_point.md R77 (d)). -/
theorem fxp_lt_of_high_lt {low high low' high' : Byte} (h : 127 < high.toNat) (hh : high.toNat < high'.toNat) :
    fxp low high < fxp low' high' := by
  have hl' := Byte.toNat_lt low'
  rw [fxp_eq_of_lt h, fxp_eq_of_lt (h.trans hh)]
  omega

/-- In the negative branch the low byte is subtracted (40_fixed_point.md R77 (d)). -/
theorem fxp_lt_of_low_gt {low high low' : Byte} (h : 127 < high.toNat) (hl : low.toNat < low'.toNat) :
    fxp low' high < fxp low high := by
  rw [fxp_eq_of_lt h, fxp_eq_of_lt h]
  omega

/-- Across the branches `FXP` falls (40_fixed_point.md R76). -/
theorem fxp_lt_of_branches {low high low' high' : Byte} (h : high.toNat ≤ 127) (h' : 127 < high'.toNat) :
    fxp low' high' < fxp low high := by
  obtain ⟨hpos, -⟩ := fxp_bounds_of_le (low := low) h
  obtain ⟨-, hneg⟩ := fxp_bounds_of_lt (low := low') h'
  omega

/-- Settles O14, clause by clause. -/
theorem fxpMonotoneOnlyWithinABranch : Obligations.FxpMonotoneOnlyWithinABranch := fun _ _ _ _ =>
  ⟨fxp_lt_of_word_lt, fxp_lt_of_high_lt, fxp_lt_of_low_gt, fxp_lt_of_branches⟩

/-- Settles O5, by evaluating the decoder on each word. -/
theorem specWordsDecode : Obligations.SpecWordsDecode :=
  ⟨rfl, rfl, rfl, rfl, rfl, rfl, rfl⟩

end Sys2Proof.Machine

/-! SUPPORT and PROOFS. The flags (41_flags.md): position `i` of an unpacked byte is its bit `i`, which is the match under
the mask `2^i`; the rows by their bits; and the byte rebuilt from its flags. -/

namespace Sys2Proof

/-! ### The bits that have a row -/

/-- Every row of a flag table reads a bit of the byte (10_state.md R16). -/
theorem bit_lt_of_mem_flagTable {set : FlagSet} : ∀ row ∈ flagTable set, row.1 < 8 := by
  cases set <;> decide

/-- A flag byte has no bit of 8 or more (30_encoding.md R53). -/
theorem decodeFlagBit_of_ge {set : FlagSet} {bit : Nat} (b : Byte) (h : 8 ≤ bit) :
    decodeFlagBit set bit b = .error (.noFlagBit bit) := by
  have hnone : (flagTable set).lookup bit = none := by
    refine List.lookup_eq_none_iff.2 fun row hrow => bne_iff_ne.2 ?_
    have hlt := bit_lt_of_mem_flagTable row hrow
    omega
  simp only [decodeFlagBit, hnone]

namespace Machine

/-! ### The two unpackings -/

theorem flagAt_flg (b : Byte) {i : Nat} (h : i < 8) : flagAt (flg b) i = b.getLsbD i := by
  have hi : flagAt (flg b) i = bitOf b i := by simp [flagAt, flg, consts, h]
  rw [hi, bitOf_eq_getLsbD b h]

theorem exec_flgPri (b : Byte) (s : State) : exec (.flgPri b) s = .next (s.give (.primaryFlags (flgPri b))) := rfl

theorem exec_flgSec (b : Byte) (s : State) : exec (.flgSec b) s = .next (s.give (.secondaryFlags (flgSec b))) := rfl

/-- Settles O34: each field of `flgPri` is a position of the unpacked byte. -/
theorem flgPriReadsEachBit : Obligations.FlgPriReadsEachBit := by
  intro b s
  simp [exec_flgPri, State.give, flgPri, flagAt_flg]

/-- Settles O35: each field of `flgSec` is a position of the unpacked byte. -/
theorem flgSecReadsEachBit : Obligations.FlgSecReadsEachBit := by
  intro b s
  simp [exec_flgSec, State.give, flgSec, flagAt_flg, consts]

/-! ### The flag rows -/

/-- Bit `i` of a byte is the match under the mask `2^i` (30_encoding.md R60). -/
theorem bitOf_eq_mask (b : Byte) (i : Fin 8) : bitOf b i = (b &&& BitVec.twoPow 8 i == BitVec.twoPow 8 i) := by
  have hne : (0#8 == BitVec.twoPow 8 i) = false := by revert i; decide
  rw [bitOf_eq_getLsbD b i.isLt, BitVec.and_twoPow]
  cases b.getLsbD i with
  | false => exact hne.symm
  | true => exact (beq_self_eq_true _).symm

/-- A row that gives one bit as its flag gives the match under that bit's mask. -/
theorem exec_flagRow_mask {row : Instr} {name : Flag} {b : Byte} {s : State} (i : Fin 8)
    (h : exec row s = .next (s.give (.flag name (bitOf b i)))) :
    exec row s = .next { s with output := some (.flag name (b &&& BitVec.twoPow 8 i == BitVec.twoPow 8 i)) } := by
  rw [h, bitOf_eq_mask]
  rfl

/-- Settles O36, row by row; a bit of 8 or more is in no row. -/
theorem primaryFlagRowsReadTheirBit : Obligations.PrimaryFlagRowsReadTheirBit := fun b _ =>
  ⟨⟨rfl, exec_flagRow_mask 0 rfl⟩, ⟨rfl, exec_flagRow_mask 1 rfl⟩, ⟨rfl, exec_flagRow_mask 2 rfl⟩,
    ⟨rfl, exec_flagRow_mask 3 rfl⟩, ⟨rfl, exec_flagRow_mask 4 rfl⟩, ⟨rfl, exec_flagRow_mask 5 rfl⟩,
    ⟨rfl, exec_flagRow_mask 6 rfl⟩, ⟨rfl, exec_flagRow_mask 7 rfl⟩, fun _ => decodeFlagBit_of_ge b⟩

/-- Settles O37, row by row; a bit of 8 or more is in no row. -/
theorem secondaryFlagRowsReadTheirBit : Obligations.SecondaryFlagRowsReadTheirBit := fun b _ =>
  ⟨⟨rfl, exec_flagRow_mask 0 rfl⟩, ⟨rfl, exec_flagRow_mask 1 rfl⟩, ⟨rfl, exec_flagRow_mask 2 rfl⟩,
    ⟨rfl, exec_flagRow_mask 3 rfl⟩, ⟨rfl, exec_flagRow_mask 4 rfl⟩, ⟨rfl, exec_flagRow_mask 5 rfl⟩,
    ⟨rfl, exec_flagRow_mask 6 rfl⟩, ⟨rfl, exec_flagRow_mask 7 rfl⟩, fun _ => decodeFlagBit_of_ge b⟩

/-! ### The byte from its flags -/

theorem flgPri_injective : Function.Injective flgPri := Function.LeftInverse.injective flgPri_toByte

theorem flgSec_injective : Function.Injective flgSec := Function.LeftInverse.injective flgSec_toByte

/-- Settles O38: the rebuilt byte is a left inverse of each unpacking, so that each is injective. -/
theorem flagsRebuildTheByte : Obligations.FlagsRebuildTheByte := fun b c s =>
  ⟨flgPri b, flgSec b, flgPri c, flgSec c, exec_flgPri b s, exec_flgSec b s, exec_flgPri c s, exec_flgSec c s,
    flgPri_toByte b, flgSec_toByte b, fun h => flgPri_injective h, fun h => flgSec_injective h⟩

end Machine

end Sys2Proof

/-! SUPPORT and PROOFS. The status label (42_status_label.md): the decimal digits of a code, the five codes of the table
and the fallback, the label of a code as the answer of its operation, and the label as a function. -/

namespace Sys2Proof.Machine

/-! ### The decimal digits of a code -/

theorem toDigits_ten_of_lt {n : Nat} (h : n < 10) : Nat.toDigits 10 n = [digit n] := by
  interval_cases n <;> rfl

theorem toDigits_ten_of_le {n : Nat} (h : 10 ≤ n) :
    Nat.toDigits 10 n = Nat.toDigits 10 (n / 10) ++ [digit (n % 10)] := by
  have hlast : [(n % 10).digitChar] = [digit (n % 10)] := by
    rw [← toDigits_ten_of_lt (Nat.mod_lt n (by decide)), Nat.toDigits_of_lt_base (Nat.mod_lt n (by decide))]
  rw [Nat.toDigits_of_base_le (by decide) h, hlast]

/-- `dec` is core Lean's decimal spelling, digit by digit from the right (42_status_label.md R127, D9). -/
theorem dec_eq_toDigits (code : Byte) : dec code = Nat.toDigits 10 code.toNat := by
  have hb := Byte.toNat_lt code
  simp only [dec]
  split_ifs with h1 h2
  · rw [toDigits_ten_of_lt h1]
  · rw [toDigits_ten_of_le (by omega), toDigits_ten_of_lt (by omega)]
    rfl
  · rw [toDigits_ten_of_le (by omega), toDigits_ten_of_le (by omega), toDigits_ten_of_lt (by omega),
      Nat.div_div_eq_div_mul]
    rfl

theorem dec_injective : Function.Injective dec := by
  intro code code' h
  rw [dec_eq_toDigits, dec_eq_toDigits] at h
  apply BitVec.eq_of_toNat_eq
  calc code.toNat = Nat.ofDigitChars 10 (Nat.toDigits 10 code.toNat) 0 := Nat.ofDigitChars_ten_toDigits.symm
    _ = Nat.ofDigitChars 10 (Nat.toDigits 10 code'.toNat) 0 := by rw [h]
    _ = code'.toNat := Nat.ofDigitChars_ten_toDigits

theorem dec_length_bounds (code : Byte) : 1 ≤ (dec code).length ∧ (dec code).length ≤ 3 := by
  have hb := Byte.toNat_lt code
  rw [dec_eq_toDigits]
  exact ⟨Nat.length_toDigits_pos, (Nat.length_toDigits_le_iff (by decide) (by decide)).2 (by omega)⟩

theorem toNat_lt_of_isDigit {c : Char} (h : c.isDigit = true) : c.toNat < 128 := by
  obtain ⟨-, h9⟩ := Char.isDigit_iff_toNat.1 h
  exact Nat.lt_of_le_of_lt h9 (by decide)

theorem dec_ascii (code : Byte) : ∀ c ∈ dec code, c.toNat < 128 := by
  intro c hc
  rw [dec_eq_toDigits] at hc
  exact toNat_lt_of_isDigit (Nat.isDigit_of_mem_toDigits (by decide) (by decide) hc)

/-! ### The fallback text -/

theorem unknownText_injective : Function.Injective unknownText := fun _ _ h =>
  dec_injective (List.append_cancel_left (List.append_cancel_right h))

theorem unknownText_length (code : Byte) : (unknownText code).length = (dec code).length + 10 := by
  simp only [unknownText, textUnknown, List.length_append, List.length_cons, List.length_nil]
  omega

theorem unknownText_head? (code : Byte) : (unknownText code).head? = some 'U' := rfl

theorem unknownText_ascii (code : Byte) : ∀ c ∈ unknownText code, c.toNat < 128 := by
  have hfront : ∀ c ∈ textUnknown, c.toNat < 128 := List.all_iff_forall_prop.1 (by decide)
  simp only [unknownText, List.forall_mem_append, List.forall_mem_singleton]
  exact ⟨⟨hfront, dec_ascii code⟩, by decide⟩

/-! ### The table and the fallback -/

/-- The codes of the status table (42_status_label.md R122 to R126). -/
def tableCodes : List Byte :=
  [consts.codeDhw, consts.codeChActive, consts.codeChIdle, consts.codeDhwPost, consts.codeChPost]

theorem knownCode_iff_mem_tableCodes {code : Byte} : knownCode code = true ↔ code ∈ tableCodes := by
  simp only [knownCode, tableCodes, Bool.or_eq_true, beq_iff_eq, List.mem_cons, List.not_mem_nil, or_false, or_assoc]

/-- A code is one of the table, or its label is the fallback text (42_status_label.md R120, R130). -/
theorem lbl_cases (code : Byte) : code ∈ tableCodes ∨ knownCode code = false ∧ lbl code = unknownText code := by
  cases hk : knownCode code with
  | true => exact .inl (knownCode_iff_mem_tableCodes.1 hk)
  | false => exact .inr ⟨rfl, (label_of_unknown hk).2⟩

theorem knownCode_eq_false_of_toNat {code : Byte} (h : code.toNat ∉ [51, 102, 126, 204, 231]) :
    knownCode code = false :=
  Bool.eq_false_iff.2 fun hk => h (List.mem_map_of_mem (f := BitVec.toNat) (knownCode_iff_mem_tableCodes.1 hk))

/-! ### The operation of a code -/

theorem decode_code8 (code : Byte) : decode ⟨.code8, [code]⟩ = .ok (decodeCode8 code) := rfl

theorem exec_lblUnknown {code : Byte} (s : State) (h : knownCode code = false) :
    exec (.lblUnknown code) s = .next (s.give (.label ⟨.unknown, unknownText code⟩)) :=
  if_neg (Bool.eq_false_iff.1 h)

/-- Whatever row a code selects, the row gives back the code's id and label (42_status_label.md R120, R121). -/
theorem exec_decodeCode8 (code : Byte) (s : State) :
    exec (decodeCode8 code) s = .next (s.give (.label ⟨labelIdOf code, lbl code⟩)) := by
  cases hk : knownCode code with
  | false =>
    obtain ⟨hid, htext⟩ := label_of_unknown hk
    rw [decodeCode8_of_unknown hk, exec_lblUnknown s hk, hid, htext]
  | true =>
    have hrow : ∀ c ∈ tableCodes, exec (decodeCode8 c) s = .next (s.give (.label ⟨labelIdOf c, lbl c⟩)) := by
      simp only [tableCodes, List.forall_mem_cons]
      exact ⟨rfl, rfl, rfl, rfl, rfl, nofun⟩
    exact hrow code (knownCode_iff_mem_tableCodes.1 hk)

/-- Settles O40: the code is none of the table, and `dec` is core Lean's spelling. -/
theorem otherCodesGiveUnknownWithTheDecimalCode : Obligations.OtherCodesGiveUnknownWithTheDecimalCode := by
  intro code s h
  have hk := knownCode_eq_false_of_toNat h
  refine ⟨congrArg Except.ok (decodeCode8_of_unknown hk), rfl, ?_⟩
  rw [exec_lblUnknown s hk, unknownText, dec_eq_toDigits]
  rfl

theorem toPort_labelIdOf (code : Byte) :
    (labelIdOf code).toPort =
      if code = 51#8 then 1#3 else if code = 102#8 then 2#3 else if code = 126#8 then 3#3
        else if code = 204#8 then 4#3 else if code = 231#8 then 5#3 else 0#3 := by
  simp only [labelIdOf, apply_ite LabelId.toPort]
  rfl

theorem LabelId.toPort_le (id : LabelId) : id.toPort.toNat ≤ 5 := by
  cases id <;> decide

/-- Settles O41: the row of the code gives back its id and label, and the id with the code determines the text. -/
theorem labelTextFollowsFromIdAndCode : Obligations.LabelTextFollowsFromIdAndCode := fun code s =>
  ⟨_, _, decode_code8 code, exec_decodeCode8 code s, rfl, toPort_labelIdOf code,
    (labelTextOfPort_toPort _ _).trans (congrArg _ (labelText_labelIdOf code)), LabelId.toPort_le _, rfl, rfl⟩

/-- Settles O39: each code is that of a row, and the row gives back the id and label of its code. -/
theorem tableCodesGiveTheirLabel : Obligations.TableCodesGiveTheirLabel := fun s =>
  ⟨⟨rfl, rfl, exec_decodeCode8 51#8 s⟩, ⟨rfl, rfl, exec_decodeCode8 102#8 s⟩, ⟨rfl, rfl, exec_decodeCode8 126#8 s⟩,
    ⟨rfl, rfl, exec_decodeCode8 204#8 s⟩, ⟨rfl, rfl, exec_decodeCode8 231#8 s⟩⟩

/-! ### The label as a function -/

/-- The five texts of the table differ, and none begins as the fallback does (42_status_label.md R130). -/
theorem lbl_injective : Function.Injective lbl := by
  have htable : ∀ c ∈ tableCodes, ∀ c' ∈ tableCodes, lbl c = lbl c' → c = c' := by decide
  have hhead : ∀ c ∈ tableCodes, (lbl c).head? ≠ some 'U' := by decide
  intro code code' h
  rcases lbl_cases code with hm | ⟨-, hu⟩ <;> rcases lbl_cases code' with hm' | ⟨-, hu'⟩
  · exact htable code hm code' hm' h
  · exact absurd (unknownText_head? code') (hu' ▸ h ▸ hhead code hm)
  · exact absurd (unknownText_head? code) (hu ▸ h ▸ hhead code' hm')
  · exact unknownText_injective (hu.symm.trans (h.trans hu'))

theorem lbl_length_bounds (code : Byte) : 11 ≤ (lbl code).length ∧ (lbl code).length ≤ 27 := by
  rcases lbl_cases code with hm | ⟨-, hu⟩
  · have htable : ∀ c ∈ tableCodes, 11 ≤ (lbl c).length ∧ (lbl c).length ≤ 27 := by decide
    exact htable code hm
  · have hd := dec_length_bounds code
    rw [hu, unknownText_length]
    omega

theorem lbl_ascii (code : Byte) : ∀ c ∈ lbl code, c.toNat < 128 := by
  rcases lbl_cases code with hm | ⟨-, hu⟩
  · have htable : ∀ c ∈ tableCodes, (lbl c).all (·.toNat < 128) = true := by decide
    exact List.all_iff_forall_prop.1 (htable code hm)
  · exact hu ▸ unknownText_ascii code

/-- The bytes of an ASCII text have the values of its characters (42_status_label.md R128, D8). -/
theorem Text.map_toNat_bytes {t : Text} (h : ∀ c ∈ t, c.toNat < 128) :
    t.bytes.map (·.toNat) = t.map (·.toNat) := by
  rw [Text.bytes, List.map_map]
  refine List.map_congr_left fun c hc => ?_
  have hlt : c.toNat < 2 ^ byteBits := (h c hc).trans (by decide)
  exact Nat.mod_eq_of_lt hlt

/-- Settles O42: the table's five texts and the fallback, clause by clause. -/
theorem labelsAreInjectiveAndBounded : Obligations.LabelsAreInjectiveAndBounded := fun code _ =>
  have ⟨hlo, hhi⟩ := lbl_length_bounds code
  ⟨fun h => lbl_injective h, hlo, hhi, lbl_ascii code, List.length_map _, Text.map_toNat_bytes (lbl_ascii code)⟩

end Sys2Proof.Machine

/-! SUPPORT and PROOFS. The frame decoder (43_frame_decode.md): each slot writes its field whatever was built before,
the override and the label take what the slots build, and the whole transaction is the record of the bytes or the error. -/

namespace Sys2Proof.Machine

/-! ### The slots -/

/-- The fifteen field slots, the operations of a frame that read the buffer themselves (20_memory.md R32). -/
def slotOps : List Instr :=
  [.fldFlue, .fldFlow, .fldRet, .fldDhw, .fldBoiler, .fldOutdoor, .fldPress, .fldTset, .fldFanset, .fldFanact,
    .fldFanpwm, .fldIocur, .fldDcode, .fldPflags, .fldSflags]

theorem frameOps_eq : frameOps = slotOps ++ [.prsOvr, .frmLabel] := rfl

/-- A slot writes its own field, as it is of the buffer, and no other, whatever was built before. -/
theorem exec_slot {i : Instr} {s : State} (hs : s.inLen = consts.frameLen) (hi : i ∈ slotOps) :
    exec i s = .next (s.putBuild (Build.fill [i] s.wires s.build)) := by
  cases i with
  | fldFlue | fldFlow | fldRet | fldDhw | fldBoiler | fldOutdoor | fldPress | fldTset | fldFanset | fldFanact
  | fldFanpwm | fldIocur => exact withPair_next hs (by decide)
  | fldDcode | fldPflags | fldSflags => exact withByte_next hs (by decide)
  | _ => simp [slotOps] at hi

theorem builds_of_putBuild {a : Answer} {s : State} {b : Build} (h : a = .next (s.putBuild b)) : Builds a s b :=
  ⟨_, h, rfl, rfl, rfl⟩

theorem exec_slot_builds {i : Instr} {s : State} (hs : s.inLen = consts.frameLen) (hi : i ∈ slotOps) :
    Builds (exec i s) s (Build.fill [i] s.wires s.build) :=
  builds_of_putBuild (exec_slot hs hi)

/-! ### The override and the label of the frame -/

/-- An operand is what its slot has built, else what the slot builds now (20_memory.md R32, log 2). -/
theorem builtBy_eq_getD {α : Type} {slot : State → Answer} {field : Build → Option α} {s t : State} {v : α}
    (hs : s.inLen = consts.frameLen) (ht : slot s = .next t) (hv : field t.build = some v) :
    builtBy slot field s = some ((field s.build).getD v) := by
  cases hb : field s.build with
  | none => exact (builtBy_slot hs hb ht).trans hv
  | some w => exact builtBy_built hs hb

theorem exec_prsOvr {s : State} (hs : s.inLen = consts.frameLen) :
    exec .prsOvr s = .next (s.putBuild { s.build with
      chPressure := some (prsOvr (s.build.pressRaw.getD s.pressRaw)
        (s.build.secondaryFlags.getD (flgSec (s.byteAt consts.offSflags))).pressureSensorPresent) }) := by
  rw [exec, execPrsOvr, builtBy_eq_getD (field := (·.pressRaw)) hs (fldPress_next hs) rfl,
    builtBy_eq_getD (field := (·.secondaryFlags)) hs (fldSflags_next hs) rfl]

theorem exec_frmLabel {s : State} (hs : s.inLen = consts.frameLen) :
    exec .frmLabel s = .next (s.putBuild { s.build with
      statusLabel := some (lbl (s.build.displayCode.getD (s.byteAt consts.offDcode))) }) := by
  rw [exec, execFrmLabel, builtBy_eq_getD (field := (·.displayCode)) hs (fldDcode_next hs) rfl]

/-! ### What an operation of a frame can do -/

/-- An operation of a frame that goes on has a frame, writes the result being built, and writes it from the buffer. -/
theorem exec_frameOp_cases {i : Instr} {s t : State} (hi : i ∈ frameOps) (h : exec i s = .next t) :
    s.inLen = consts.frameLen ∧ ∃ b, t = s.putBuild b ∧ (s.build.Within s.wires → b.Within s.wires) := by
  have hs : s.inLen = consts.frameLen := by
    cases i with
    | fldFlue | fldFlow | fldRet | fldDhw | fldBoiler | fldOutdoor | fldPress | fldTset | fldFanset | fldFanact
    | fldFanpwm | fldIocur => exact (withPair_cases h).1
    | fldDcode | fldPflags | fldSflags => exact (withByte_cases h).1
    | prsOvr => exact (execPrsOvr_cases h).1
    | frmLabel => exact (execFrmLabel_cases h).1
    | _ => simp [frameOps] at hi
  refine ⟨hs, ?_⟩
  rcases List.mem_append.1 (frameOps_eq ▸ hi) with hslot | hother
  · rw [exec_slot hs hslot] at h
    cases h
    exact ⟨_, rfl, fun w => w.fill [i]⟩
  · obtain rfl | rfl : i = .prsOvr ∨ i = .frmLabel := by simpa using hother
    · obtain ⟨-, c, rfl, hc⟩ := execPrsOvr_cases h
      exact ⟨_, rfl, fun w => { w with chPressure := .inr (congrArg some (hc w)) }⟩
    · obtain ⟨-, l, rfl, hl⟩ := execFrmLabel_cases h
      exact ⟨_, rfl, fun w => { w with statusLabel := .inr (congrArg some (hl w)) }⟩

/-- An operation goes on wherever it is ready: a frame operation by its frame, a helper by its operands. -/
theorem exec_next_of_ready {i : Instr} {s : State} (h : s.ready i) : ∃ t, exec i s = .next t := by
  obtain ⟨hwf, hframe⟩ := h
  cases i with
  | fldFlue | fldFlow | fldRet | fldDhw | fldBoiler | fldOutdoor | fldPress | fldTset | fldFanset | fldFanact
  | fldFanpwm | fldIocur | fldDcode | fldPflags | fldSflags =>
    exact ⟨_, exec_slot (hframe.resolve_right (by decide)) (by decide)⟩
  | prsOvr => exact ⟨_, exec_prsOvr (hframe.resolve_right (by decide))⟩
  | frmLabel => exact ⟨_, exec_frmLabel (hframe.resolve_right (by decide))⟩
  | lenChk =>
    by_cases hs : s.inLen = consts.frameLen
    · exact ⟨_, exec_lenChk_of_frame hs⟩
    · exact ⟨_, exec_lenChk_of_other hs⟩
  | frmDec => exact ⟨_, exec_frmDec s⟩
  | fxpPos low high => exact ⟨_, exec_fxpPos_of_le s (of_decide_eq_true hwf)⟩
  | fxpNeg low high => exact ⟨_, exec_fxpNeg_of_lt s (of_decide_eq_true hwf)⟩
  | lblUnknown code => exact ⟨_, exec_lblUnknown s (by simpa [Instr.wf] using hwf)⟩
  | _ => exact ⟨_, rfl⟩

/-! ### One operation after another -/

/-- Slots, one after another, write the field of each whatever was built before, and the rest goes on from there. -/
theorem runAll_slots_append {ops : List Instr} {s : State} (hs : s.inLen = consts.frameLen)
    (hops : ∀ i ∈ ops, i ∈ slotOps) (rest : List Instr) : ∀ b : Build,
      runAll (ops ++ rest) (s.putBuild b) = runAll rest (s.putBuild (Build.fill ops s.wires b)) := by
  induction ops with
  | nil => exact fun _ => rfl
  | cons i ops ih =>
    intro b
    obtain ⟨hi, hops⟩ := List.forall_mem_cons.1 hops
    rw [Build.fill_cons, List.cons_append, runAll_cons (exec_slot (s := s.putBuild b) hs hi)]
    exact ih hops _

/-- Once every slot has run, the override and the label have the operands of the buffer, and complete the record. -/
theorem runAll_prsOvr_frmLabel {s : State} (hs : s.inLen = consts.frameLen) (b : Build) :
    runAll [.prsOvr, .frmLabel] (s.putBuild (Build.fill slotOps s.wires b)) = .next (s.putBuild s.wires) := by
  rw [runAll_cons (exec_prsOvr (s := s.putBuild _) hs),
    runAll_cons (exec_frmLabel (s := (s.putBuild _).putBuild _) hs)]
  rfl

/-- The operations of a frame in the order of 43_frame_decode.md R160 build all that is of the buffer. -/
theorem runAll_frameOps_putBuild {s : State} (hs : s.inLen = consts.frameLen) (b : Build) :
    runAll frameOps (s.putBuild b) = .next (s.putBuild s.wires) := by
  rw [frameOps_eq, runAll_slots_append hs (fun _ h => h), runAll_prsOvr_frmLabel hs]

theorem State.assemble_wires (s : State) : s.wires.assemble = some s.telemetry := rfl

/-! ### The whole transaction -/

/-- The block's own step ends the transaction with the result of the buffer (00_scope.md R8). -/
theorem step_of_frame_request {s : State} (h : s.request = ⟨.frame, []⟩) : step s = .next (s.finish s.decoded) :=
  (step_of_decode_ok (i := .frmDec) (by rw [h]; rfl)).trans (exec_frmDec s)

/-! ### The bytes that a record determines -/

/-- The offsets of the fixed-point fields of the record, all but the pressure (43_frame_decode.md R143 to R154). -/
def recordOffsets : List Nat := [0, 2, 4, 6, 8, 10, 14, 16, 18, 20, 22]

theorem State.fxAt_eq_of_telemetry_eq {s u : State} (h : s.telemetry = u.telemetry) :
    ∀ o ∈ recordOffsets, s.fxAt o = u.fxAt o := by
  simp only [recordOffsets, List.forall_mem_cons]
  exact ⟨congrArg (·.flue) h, congrArg (·.flow) h, congrArg (·.return_) h, congrArg (·.domesticHotWater) h,
    congrArg (·.boilerSensor) h, congrArg (·.outdoor) h, congrArg (·.temperatureSetpoint) h,
    congrArg (·.fanSpeedSetpoint) h, congrArg (·.fanSpeedActual) h, congrArg (·.fanPwm) h, congrArg (·.ioCurrent) h,
    nofun⟩

/-- A fixed-point field determines both of its bytes, `FXP` being injective (40_fixed_point.md R77 (a)). -/
theorem State.bytes_eq_of_fxAt_eq {s u : State} {o : Nat} (h : s.fxAt o = u.fxAt o) :
    ∀ a ∈ [o, o + 1], s.byteAt a = u.byteAt a := by
  obtain ⟨hlow, hhigh⟩ := fxpIsInjective _ _ _ _ h
  simp [hlow, hhigh]

/-- The display code and the flag bytes, `FLG` being injective (41_flags.md R109). -/
theorem State.oneByteFields_eq_of_telemetry_eq {s u : State} (h : s.telemetry = u.telemetry) :
    ∀ a ∈ [24, 27, 29], s.byteAt a = u.byteAt a := by
  simp only [List.forall_mem_cons]
  exact ⟨congrArg (·.displayCode) h, flgPri_injective (congrArg (·.primaryFlags) h),
    flgSec_injective (congrArg (·.secondaryFlags) h), nofun⟩

/-- A measured pressure determines its two bytes. -/
theorem State.pressure_bytes_eq_of_chPressure_eq {s u : State} (h : s.chPressure = u.chPressure)
    (hbit : (s.byteAt 29).getLsbD 5 = true) : s.byteAt 12 = u.byteAt 12 ∧ s.byteAt 13 = u.byteAt 13 := by
  rw [s.chPressure_eq, if_pos hbit, u.chPressure_eq] at h
  split at h
  · exact fxpIsInjective _ _ _ _ (ChPressure.measured.inj h)
  · cases h

/-! ### The statements -/

/-- Settles O15: each slot fills its own field. -/
theorem twoByteSlotsGiveFxpOfTheirBytes : Obligations.TwoByteSlotsGiveFxpOfTheirBytes := fun s hs =>
  have slot {i : Instr} (hi : i ∈ slotOps) := exec_slot_builds (s := s) hs hi
  ⟨slot (by decide), slot (by decide), slot (by decide), slot (by decide), slot (by decide), slot (by decide),
    slot (by decide), slot (by decide), slot (by decide), slot (by decide), slot (by decide), slot (by decide)⟩

/-- Settles O16: the slot fills the display code. -/
theorem displayCodeSlotCopiesByte24 : Obligations.DisplayCodeSlotCopiesByte24 := fun _ hs =>
  exec_slot_builds hs (by decide)

/-- Settles O17: each slot fills its flags, which are the bits of its byte. -/
theorem flagSlotsUnpackBytes27And29 : Obligations.FlagSlotsUnpackBytes27And29 := by
  intro s hs
  have hp : Builds (exec .fldPflags s) s { s.build with primaryFlags := some (flgPri (s.byteAt 27)) } :=
    exec_slot_builds hs (by decide)
  have hq : Builds (exec .fldSflags s) s { s.build with secondaryFlags := some (flgSec (s.byteAt 29)) } :=
    exec_slot_builds hs (by decide)
  refine ⟨?_, ?_, _, exec_prsOvr hs, rfl, rfl⟩
  · simpa [flgPri, flagAt_flg] using hp
  · simpa [flgSec, flagAt_flg, consts] using hq

/-- Settles O19: the operands are what is built, else what the slots give, and `FXP` never gives the sentinel. -/
theorem pressureOverrideChoosesByBitFive : Obligations.PressureOverrideChoosesByBitFive := by
  refine fun s hs => ⟨?_, fun hw => ?_, fun _ => rfl, rfl, fxp_ne_sentinel⟩
  · rw [← flgSec_pressureSensorPresent, Option.getD_map]
    exact exec_prsOvr hs
  · rw [← s.chPressure_eq]
    exact builds_of_putBuild (execPrsOvr_next hs hw)

/-- Settles O20: the operand is what is built, else what the slot gives. -/
theorem frameLabelIsTheLabelOfByte24 : Obligations.FrameLabelIsTheLabelOfByte24 := fun s hs =>
  ⟨exec_frmLabel hs, fun hw => builds_of_putBuild (execFrmLabel_next hs hw),
    _, _, fldDcode_next hs, exec_frmLabel (s := s.putBuild _) hs, rfl, rfl⟩

/-- Settles O21, by the two outcomes of the length test. -/
theorem lengthCheckPassesOrEndsInTheError : Obligations.LengthCheckPassesOrEndsInTheError := fun _ =>
  ⟨exec_lenChk_of_frame, exec_lenChk_of_other⟩

/-- Settles O23: the transaction ends with the result of the buffer, by the two outcomes of the length test. -/
theorem frameDecodeBuildsTheRecord : Obligations.FrameDecodeBuildsTheRecord := by
  refine fun s => ⟨fun hs => ?_, fun hs => ?_⟩
  · rw [exec_frmDec, State.decoded_of_frame hs, ← s.chPressure_eq]
    rfl
  · rw [exec_frmDec, State.decoded_of_other hs]
    rfl

/-- Settles O24: run one by one, the operations build all that is of the buffer, which assembles to the record. -/
theorem operationsOneByOneBuildTheSameRecord : Obligations.OperationsOneByOneBuildTheSameRecord := fun s hs =>
  ⟨_, _, _, (runAll_cons (exec_lenChk_of_frame hs)).trans (runAll_frameOps_putBuild hs s.build), s.assemble_wires,
    exec_frmDec s, congrArg some (State.decoded_of_frame hs), rfl⟩

/-- Settles O26: the result is that of the buffer, by the two outcomes of the length test. -/
theorem everyBufferHasAResult : Obligations.EveryBufferHasAResult := by
  intro s hr
  refine ⟨_, _, step_of_frame_request hr, State.finish_result _ _, ?_⟩
  by_cases hs : s.inLen = 32
  · simp [State.decoded_of_frame hs, hs]
  · simp [State.decoded_of_other hs, hs]

/-- Settles O27: a transaction leaves the length and the bytes, on which alone the next result depends. -/
theorem repeatedTransactionGivesTheSameResult : Obligations.RepeatedTransactionGivesTheSameResult := by
  intro s t hr h
  rw [step_of_frame_request hr] at h
  cases h
  exact ⟨_, step_of_frame_request hr, congrArg some (State.decoded_congr rfl rfl), rfl, rfl, rfl⟩

/-- Settles O31: both states have an absent sensor, and the record reads the pressure bytes for the pressure alone. -/
theorem absentSensorHidesThePressureBytes : Obligations.AbsentSensorHidesThePressureBytes := by
  intro s u hs hu hbit h
  have habsent {v : State} (hv : (v.byteAt 29).getLsbD 5 = false) : v.chPressure = .sensorAbsent := by
    simp [State.chPressure_eq, hv]
  have hps : s.chPressure = .sensorAbsent := habsent hbit
  have hpu : u.chPressure = .sensorAbsent := habsent (h 29 (by decide) (by decide) ▸ hbit)
  have hd : u.decoded = .ok s.telemetry := by
    rw [State.decoded_of_frame hu, State.telemetry_eq_of_bytes (hps.trans hpu.symm) h]
  exact ⟨_, _, s.telemetry, exec_frmDec s, exec_frmDec u, congrArg some (State.decoded_of_frame hs), congrArg some hd,
    hps, congrArg ChPressure.number hps⟩

/-- Settles O32: equal results have equal records, and each field of a record determines its bytes. -/
theorem resultDeterminesTheBytesThatMatter : Obligations.ResultDeterminesTheBytesThatMatter := by
  intro s u t v hs hu hst huv hr
  rw [exec_frmDec, State.decoded_of_frame hs] at hst
  rw [exec_frmDec, State.decoded_of_frame hu] at huv
  cases hst
  cases huv
  have ht : s.telemetry = u.telemetry := Result.ok.inj (Option.some.inj hr)
  refine ⟨fun a ha => ?_, State.pressure_bytes_eq_of_chPressure_eq (congrArg (·.chPressure) ht)⟩
  have ha' : a ∈ (recordOffsets.flatMap fun o => [o, o + 1]) ++ [24, 27, 29] := ha
  rcases List.mem_append.1 ha' with hfx | hone
  · obtain ⟨o, ho, hoa⟩ := List.mem_flatMap.1 hfx
    exact State.bytes_eq_of_fxAt_eq (State.fxAt_eq_of_telemetry_eq ht o ho) a hoa
  · exact State.oneByteFields_eq_of_telemetry_eq ht a hone

/-- Settles O43: a ready operation goes on, and whatever goes on leaves the inputs. -/
theorem readyOperationsGoOn : Obligations.ReadyOperationsGoOn := by
  intro i s h
  obtain ⟨t, ht⟩ := exec_next_of_ready h
  obtain ⟨hmem, hlen, hreq, -⟩ := (exec_cases ht).keeps_inputs
  exact ⟨t, ht, hmem, hlen, hreq⟩

/-- Settles O47, by what an operation of a frame can do. -/
theorem frameOperationsWriteOnlyWhatTheyBuild : Obligations.FrameOperationsWriteOnlyWhatTheyBuild := by
  intro i s t hi h
  obtain ⟨hs, b, rfl, hb⟩ := exec_frameOp_cases hi h
  exact ⟨hs, rfl, hb⟩

end Sys2Proof.Machine

/-! SUPPORT and PROOFS. The boundary with the transport: the two acts that start a transaction, delivery and
presentation at the ports (44_transport_boundary.md R180, R183; 10_state.md R17). -/

namespace Sys2Proof.Machine

/-- A state in which nothing is built and nothing given back has the invariant on any canonical buffer. -/
theorem State.inv_of_nothing_built {s : State} (hm : Memory.wf s.mem) (hb : s.build = Build.empty)
    (ho : s.output = none) : s.Inv where
  mem := hm
  frame := fun hne => absurd hb hne
  built := hb ▸ Build.empty_within _
  output := fun _ h => nomatch ho.symm.trans h

/-- Bytes loaded from offset 0 on are read back at their own offsets. -/
theorem Memory.read_load_zero {bytes : List Byte} {i : Nat} (h : i < bytes.length) :
    Memory.read (Memory.load [] 0 bytes) i = bytes[i] := by
  rw [Memory.read_load bytes 0 i Memory.wf_nil, if_pos (by omega), Nat.sub_zero, List.getD_eq_getElem _ _ h]

/-- Byte `i` of a delivered buffer is the buffer's byte `i` (44_transport_boundary.md R180). -/
theorem State.deliver_byteAt (s : State) {buf : List Byte} {i : Nat} (h : i < buf.length) :
    (s.deliver buf).byteAt i = buf[i] :=
  Memory.read_load_zero h

/-- Byte `i` of what is presented at the ports is wire `i` of `in_data` (10_state.md R22). -/
theorem State.present_byteAt (s : State) {lenW : Nat} (len : BitVec lenW) (wires : Vector Byte consts.frameLen)
    {i : Nat} (h : i < consts.frameLen) : (s.present len wires).byteAt i = wires[i] :=
  (Memory.read_load_zero (by simpa using h)).trans (Vector.getElem_toList _)

theorem State.deliver_inv (s : State) (buf : List Byte) : (s.deliver buf).Inv :=
  State.inv_of_nothing_built (s.deliver_wf buf) rfl rfl

theorem State.present_inv (s : State) {lenW : Nat} (len : BitVec lenW) (wires : Vector Byte consts.frameLen) :
    (s.present len wires).Inv :=
  State.inv_of_nothing_built (s.present_wf len wires) rfl rfl

/-- Settles O51: either act sets up a canonical buffer with nothing built and nothing given back, whatever the state
before, so the invariant is established and not only kept. -/
theorem deliveryEstablishesTheInvariant : Obligations.DeliveryEstablishesTheInvariant := fun s buf _ =>
  ⟨s.deliver_inv buf, s.deliver_inLen buf, fun _ h => s.deliver_byteAt h, s.deliver_build buf, s.deliver_output buf,
    fun _ len wires => ⟨s.present_inv len wires, s.present_inLen len wires, fun _ h => s.present_byteAt len wires h,
      s.present_build len wires, s.present_output len wires⟩⟩

end Sys2Proof.Machine

/-! SUPPORT and PROOFS. The one exception (60_exceptions.md): when the length check and the whole transaction raise it
(R190, R196), and how the ports carry it or refuse the length (R197, R200). -/

namespace Sys2Proof.Machine

/-! ### When the error is raised -/

/-- For another length the result of the buffer is the error, so that the transaction raises it (43_frame_decode.md
R160) as the length check does. -/
theorem exec_frmDec_of_other {s : State} (hs : s.inLen ≠ consts.frameLen) :
    exec .frmDec s = .next s.raiseUnexpectedLength := by
  rw [exec_frmDec, State.decoded_of_other hs, State.raiseUnexpectedLength]

/-- On a frame neither the length check nor the transaction gives the error (60_exceptions.md R190). -/
theorem exec_of_frame_no_error {s : State} {i : Instr} (hi : i = .lenChk ∨ i = .frmDec)
    (hs : s.inLen = consts.frameLen) : ∃ t, exec i s = .next t ∧ ∀ e, t.result ≠ some (.err e) := by
  rcases hi with rfl | rfl
  · exact ⟨_, exec_lenChk_of_frame hs, fun e => by simp⟩
  · exact ⟨_, exec_frmDec s, fun e => by simp [State.decoded_of_frame hs]⟩

/-- For another length both raise the error (60_exceptions.md R190, R196). -/
theorem exec_of_other_raises {s : State} {i : Instr} (hi : i = .lenChk ∨ i = .frmDec)
    (hs : s.inLen ≠ consts.frameLen) : exec i s = .next s.raiseUnexpectedLength := by
  rcases hi with rfl | rfl
  · exact exec_lenChk_of_other hs
  · exact exec_frmDec_of_other hs

@[simp] theorem State.raiseUnexpectedLength_result (s : State) :
    s.raiseUnexpectedLength.result = some (.err (.unexpectedLength consts.frameLen s.inLen)) :=
  State.finish_result s _

/-- Settles O22, by the two outcomes of the length check. -/
theorem unexpectedLengthExactlyForOtherLengths : Obligations.UnexpectedLengthExactlyForOtherLengths := by
  intro s i hi
  by_cases hs : s.inLen = consts.frameLen
  · obtain ⟨t, ht, hno⟩ := exec_of_frame_no_error hi hs
    exact ⟨t, ht, ⟨fun ⟨e, he⟩ => absurd he (hno e), fun hne => absurd hs hne⟩, fun hne => absurd hs hne⟩
  · have hr := s.raiseUnexpectedLength_result
    exact ⟨_, exec_of_other_raises hi hs, ⟨fun _ => hs, fun _ => ⟨_, hr⟩⟩,
      fun _ => ⟨hr, s.raiseUnexpectedLength_build⟩⟩

/-! ### The ports of the error -/

theorem State.presentable_iff {lenW : Nat} {s : State} :
    s.presentable lenW = true ↔ Config.lenWMin ≤ lenW ∧ s.inLen < 2 ^ lenW := by
  simp [State.presentable]

/-- A length other than a frame's that can be presented gives the ports of the error (60_exceptions.md R197). -/
theorem State.outPorts_of_other {lenW : Nat} {s : State} (hp : s.presentable lenW = true)
    (hs : s.inLen ≠ consts.frameLen) :
    s.outPorts lenW = .ok (OutPorts.ofErr lenW s.draws consts.frameLen s.inLen) := by
  rw [State.outPorts, if_pos hp, State.decoded_of_other hs, OutPorts.ofResult]

theorem State.outPorts_of_not_presentable {lenW : Nat} {s : State} (hp : ¬ s.presentable lenW = true) :
    s.outPorts lenW = .error .lengthNotPresentable :=
  if_neg hp

/-- The error's two lengths fit their ports, so that the ports read as the lengths: the frame's since `LEN_W` is at
least 6 (00_scope.md R7), the buffer's since it can be presented. -/
theorem OutPorts.ofErr_lengths {lenW : Nat} {s : State} (hp : s.presentable lenW = true) (draw : Nat) :
    (OutPorts.ofErr lenW draw consts.frameLen s.inLen).errExpected.toNat = consts.frameLen ∧
      (OutPorts.ofErr lenW draw consts.frameLen s.inLen).errActual.toNat = s.inLen := by
  obtain ⟨hw, hfit⟩ := State.presentable_iff.1 hp
  have hframe : consts.frameLen < 2 ^ lenW :=
    calc consts.frameLen < 2 ^ Config.lenWMin := by decide
      _ ≤ 2 ^ lenW := Nat.pow_le_pow_right (by decide) hw
  exact ⟨(BitVec.toNat_ofNat _ _).trans (Nat.mod_eq_of_lt hframe),
    (BitVec.toNat_ofNat _ _).trans (Nat.mod_eq_of_lt hfit)⟩

/-- Settles O54, by whether the length can be presented. -/
theorem portsCarryTheError : Obligations.PortsCarryTheError := by
  intro lenW s
  refine ⟨fun hs hw hfit => ?_, fun hbad => ?_⟩
  · have hp := State.presentable_iff.2 ⟨hw, hfit⟩
    exact ⟨_, State.outPorts_of_other hp hs, rfl, OutPorts.ofErr_lengths hp s.draws⟩
  · refine State.outPorts_of_not_presentable fun hp => ?_
    obtain ⟨hw, hfit⟩ := State.presentable_iff.1 hp
    exact hbad.elim (Nat.not_lt.2 hw) (Nat.not_le.2 hfit)

end Sys2Proof.Machine
